-- ==== Sys2Proof/Config.lean ====
section
/-! DEFINITION. What the spec leaves to the platform. -/

namespace Sys2Proof

/-- TICK_PERIOD, the real time between two Ticks (R7, R76, D11: OPEN). No rule reads it, and nothing in the model
does. PRESUMED nothing about it: it has no body, so no proof can see a value (log 10). -/
opaque Config.tickPeriod : Nat

end Sys2Proof
end

