-- ==== Sys2Proof/Word.lean ====
section
/-! DEFINITION. The two word types of the core (rule R9: `u8`, `u16`). -/

namespace Sys2Proof

/-- A byte of a frame or a stream, `u8` (R9). -/
abbrev Byte := BitVec 8

/-- A host register, `u16` (R9, R71). -/
abbrev Word := BitVec 16

end Sys2Proof
end

