-- ==== Sys2Proof/Machine/Bytes.lean ====
section
/-! DEFINITION. Splitting a 16-bit word into bytes and joining it again (rules R77, R78, R105, R106). -/

namespace Sys2Proof.Machine

/-- `w[15:8]`. -/
def hiByte (w : Word) : Byte := w.extractLsb' 8 8

/-- `w[7:0]`. -/
def loByte (w : Word) : Byte := w.extractLsb' 0 8

/-- `{hi, lo}`: the number `hi·256 + lo` (R9). -/
def joinBytes (hi lo : Byte) : Word := hi ++ lo

/-- The two wire bytes of a multi-byte field of a frame: high byte first (R77). -/
def bigEndian (w : Word) : List Byte := [hiByte w, loByte w]

/-- The two wire bytes of a CRC: low byte first (R78). -/
def littleEndian (w : Word) : List Byte := [loByte w, hiByte w]

end Sys2Proof.Machine
end

