-- ==== Sys2Proof/Machine/Params.lean ====
section
/-! DEFINITION. The constants the document fixes (rule R6). -/

namespace Sys2Proof.Machine

/-- UNIT_MIN (R6). -/
abbrev unitMin : Nat := 1
/-- UNIT_MAX (R6). -/
abbrev unitMax : Nat := 247
/-- FC_RHR, Read Holding Registers (R6). -/
abbrev fcRhr : Byte := 0x03
/-- QTY_MIN (R6). -/
abbrev qtyMin : Nat := 1
/-- QTY_MAX (R6). -/
abbrev qtyMax : Nat := 125
/-- CRC_INIT, the initial value of a CRC (R6, R141). -/
abbrev crcInitial : Word := 0xFFFF
/-- CRC_POLY, the reflected polynomial (R6, R140). -/
abbrev crcPoly : Word := 0xA001
/-- REQ_LEN, bytes of a request ADU (R6). -/
abbrev reqLen : Nat := 8
/-- MIN_FRAME, the least length of a frame that is not FrameTooShort (R6, R190). -/
abbrev minFrame : Nat := 4
/-- EXC_LEN, bytes of an exception response ADU (R6). -/
abbrev excLen : Nat := 5
/-- RSP_LEN(q), bytes of a success response for quantity q (R6, R107). -/
abbrev rspLen (q : Nat) : Nat := 5 + 2 * q

end Sys2Proof.Machine
end

