-- ==== Sys2Proof/Machine/Crc.lean ====
section
/-! DEFINITION. The CRC16 Engine's pure functions (rules R140, R141, R147). -/

namespace Sys2Proof.Machine

/-- One of the eight shifts of R140: logical shift right by one; the polynomial is xored in when the bit shifted out
was 1. -/
def crcShift (c : Word) : Word :=
  if c.getLsbD 0 then (c >>> 1) ^^^ crcPoly else c >>> 1

/-- `crc_step(c, b)`, the update of the CRC by one byte (R140). -/
def crcStep (c : Word) (b : Byte) : Word :=
  Nat.repeat crcShift 8 (c ^^^ b.setWidth 16)

/-- The fold of `crc_step` over bytes, from any start (R142 item 3). -/
def crcFold (c : Word) (s : List Byte) : Word := s.foldl crcStep c

/-- `crc16(s)` (R141). -/
def crc16 (s : List Byte) : Word := crcFold crcInitial s

end Sys2Proof.Machine
end

