-- ==== Sys2Proof/Syntax.lean ====
section
/-! DEFINITION. The instructions: one constructor per row of spec/opcode_table.json. -/

namespace Sys2Proof

/-- One constructor per row of the opcode table (R123): three frames, six commands, the CRC_DATA write, five events. -/
inductive Instr where
  /-- REQ_RHR: a whole request frame on the TX stream (R101). The function code is 0x03 by the format. -/
  | reqRhr (unit : Byte) (addr qty crc : Word)
  /-- RSP_RHR: a whole success response on the RX stream (R102), `regs.length` register values. -/
  | rspRhr (unit byteCount : Byte) (regs : List Word) (crc : Word)
  /-- RSP_EXC: a whole exception response on the RX stream (R103). `func` is the function code's low seven bits. -/
  | rspExc (unit : Byte) (func : BitVec 7) (code : Byte) (crc : Word)
  /-- NOP: HostWrite(0x00, 0x0000) (R232). -/
  | nop
  /-- ENCODE: HostWrite(0x00, 0x0001) (R163). -/
  | encode
  /-- DECODE: HostWrite(0x00, 0x0002) (R181). -/
  | decode
  /-- EXECUTE: HostWrite(0x00, 0x0003) (R221). -/
  | execute
  /-- CRC_INIT: HostWrite(0x00, 0x0004) (R143). -/
  | crcInit
  /-- CLEAR: HostWrite(0x00, 0x0005) (R231). -/
  | clear
  /-- CRC_DATA: HostWrite(0x13, v) (R144). `v` is the whole written value. -/
  | crcData (v : Word)
  /-- RESET: strobe `rst` (R310). -/
  | reset
  /-- IOERR: strobe `io_err` (R230). -/
  | ioErr
  /-- RXBYTE: strobe `rx_valid` with `rx_data = b` (R182, R183, R187). -/
  | rxByte (b : Byte)
  /-- TICK: strobe `tick` (R224, R225, R226). -/
  | tick
  /-- TXACCEPT: strobe `tx_fire` (R223, R240). -/
  | txAccept
  deriving DecidableEq, Repr

end Sys2Proof
end

