-- ==== Sys2Proof/WellFormed.lean ====
section
/-! DEFINITION. Which terms of `Instr` the formats of 30_encoding.md admit. -/

namespace Sys2Proof

/-- The fields of a request frame: unit 1 to 247, quantity 1 to 125, the CRC of the six bytes before it (R101). -/
def reqFieldsOk (unit : Byte) (addr qty crc : Word) : Bool :=
  decide (Machine.unitMin ≤ unit.toNat) && decide (unit.toNat ≤ Machine.unitMax)
    && decide (Machine.qtyMin ≤ qty.toNat) && decide (qty.toNat ≤ Machine.qtyMax)
    && crc == Machine.crc16 ([unit, Machine.fcRhr] ++ Machine.bigEndian addr ++ Machine.bigEndian qty)

/-- The check on each instruction's fields. A received frame's byte count and CRC may be anything: `validate` judges
them (R189); its register count is a quantity, 1 to 125 (R102, R107). -/
def wellFormed : Instr → Bool
  | .reqRhr unit addr qty crc => reqFieldsOk unit addr qty crc
  | .rspRhr _ _ regs _ => decide (Machine.qtyMin ≤ regs.length) && decide (regs.length ≤ Machine.qtyMax)
  | .rspExc _ _ _ _ => true
  | .nop => true
  | .encode => true
  | .decode => true
  | .execute => true
  | .crcInit => true
  | .clear => true
  | .crcData _ => true
  | .reset => true
  | .ioErr => true
  | .rxByte _ => true
  | .tick => true
  | .txAccept => true

end Sys2Proof
end

