-- ==== Sys2Proof/Decode.lean ====
section
/-! DEFINITION. Decoding what the ports carry into instructions, and the encoder (30_encoding.md). -/

namespace Sys2Proof

open Machine

/-- The port on which an encoding arrives. It tells the formats of R100 apart: a CMD or REGWR word is a host write, an
EVENT is a strobe vector, an ADU is a frame on one of the two streams. -/
inductive Port where
  /-- A host write, three bytes `aa dddd` as R121 writes it: address, data high, data low. -/
  | hostWrite
  /-- The strobe vector of R111 in the low five bits of one byte, then `rx_data`. -/
  | strobe
  /-- A whole frame on the TX stream, core to device. -/
  | txWire
  /-- A whole frame on the RX stream, device to core. -/
  | rxWire
  deriving DecidableEq, Repr

/-- Why bytes are no instruction. -/
inductive DecodeError where
  /-- The number of bytes is none the port's formats have. -/
  | wrongLength
  /-- A CMD code 0x0006 to 0xFFFF (R116). -/
  | reservedCommand
  /-- A host write to an address other than CMD and CRC_DATA (R72). -/
  | plainRegister
  /-- A bit above bit 4 of the strobe vector is set (R111). -/
  | notStrobes
  /-- No strobe is set. -/
  | noStrobe
  /-- A frame whose function byte is that of no format (R112, R117). -/
  | unknownFunction
  deriving DecidableEq, Repr

/-- The bytes of a request frame (R101). -/
def reqBytes (unit : Byte) (addr qty crc : Word) : List Byte :=
  [unit, fcRhr] ++ bigEndian addr ++ bigEndian qty ++ littleEndian crc

/-- The bytes of a success response (R102). -/
def rspBytes (unit byteCount : Byte) (regs : List Word) (crc : Word) : List Byte :=
  [unit, fcRhr, byteCount] ++ regs.flatMap bigEndian ++ littleEndian crc

/-- The function byte of an exception response: bit 7 set above the seven given bits (R103). -/
def excFunction (func : BitVec 7) : Byte := 1#1 ++ func

/-- The bytes of an exception response (R103). -/
def excBytes (unit : Byte) (func : BitVec 7) (code : Byte) (crc : Word) : List Byte :=
  [unit, excFunction func, code] ++ littleEndian crc

/-- The command table (R108). -/
def decodeCommand (v : Word) : Except DecodeError Instr :=
  match v.toNat with
  | 0 => .ok .nop
  | 1 => .ok .encode
  | 2 => .ok .decode
  | 3 => .ok .execute
  | 4 => .ok .crcInit
  | 5 => .ok .clear
  | _ => .error .reservedCommand

/-- A host write as an instruction: CMD (R108) or CRC_DATA (R110). -/
def decodeHostWrite (a : Byte) (v : Word) : Except DecodeError Instr :=
  if a = 0x00 then decodeCommand v
  else if a = 0x13 then .ok (.crcData v)
  else .error .plainRegister

/-- The first event of a strobe vector in the order of R322, and the strobes left after it. Reset leaves none. -/
def firstStrobe (v : BitVec 5) (rxData : Byte) : Option (Instr × BitVec 5) :=
  if v.getLsbD 4 then some (.reset, 0)
  else if v.getLsbD 3 then some (.ioErr, v &&& 0b10111)
  else if v.getLsbD 2 then some (.rxByte rxData, v &&& 0b11011)
  else if v.getLsbD 1 then some (.tick, v &&& 0b11101)
  else if v.getLsbD 0 then some (.txAccept, v &&& 0b11110)
  else none

/-- A strobe vector as an instruction: its first event (R111, R322). -/
def decodeStrobe (v rxData : Byte) : Except DecodeError Instr :=
  if 32 ≤ v.toNat then .error .notStrobes
  else match firstStrobe (v.setWidth 5) rxData with
    | some (i, _) => .ok i
    | none => .error .noStrobe

/-- Register pairs, high byte first, then the two CRC bytes, low byte first (R102). -/
def splitRegs : List Byte → Option (List Word × Word)
  | [lo, hi] => some ([], joinBytes hi lo)
  | hi :: lo :: b :: rest =>
    match splitRegs (b :: rest) with
    | some (regs, crc) => some (joinBytes hi lo :: regs, crc)
    | none => none
  | _ => none

/-- A frame on the TX stream (R101). -/
def decodeTx : List Byte → Except DecodeError Instr
  | [unit, fc, ah, al, qh, ql, cl, ch] =>
    if fc = fcRhr then .ok (.reqRhr unit (joinBytes ah al) (joinBytes qh ql) (joinBytes ch cl))
    else .error .unknownFunction
  | _ => .error .wrongLength

/-- A frame on the RX stream: bit 7 of byte 1 tells an exception response from a success response (R112). -/
def decodeRx : List Byte → Except DecodeError Instr
  | unit :: fc :: rest =>
    if fc.getLsbD 7 then
      match rest with
      | [code, cl, ch] => .ok (.rspExc unit (fc.extractLsb' 0 7) code (joinBytes ch cl))
      | _ => .error .wrongLength
    else if fc = fcRhr then
      match rest with
      | byteCount :: tail =>
        match splitRegs tail with
        | some (regs, crc) => .ok (.rspRhr unit byteCount regs crc)
        | none => .error .wrongLength
      | [] => .error .wrongLength
    else .error .unknownFunction
  | _ => .error .wrongLength

/-- Decode any bytes on any port, or say by name why they are no instruction. -/
def decode (p : Port) (bs : List Byte) : Except DecodeError Instr :=
  match p with
  | .hostWrite =>
    match bs with
    | [a, hi, lo] => decodeHostWrite a (joinBytes hi lo)
    | _ => .error .wrongLength
  | .strobe =>
    match bs with
    | [v, rxData] => decodeStrobe v rxData
    | _ => .error .wrongLength
  | .txWire => decodeTx bs
  | .rxWire => decodeRx bs

/-- The encoder: the port and the bytes of an instruction, from the same tables (R101 to R103, R108, R110, R111). -/
def encode : Instr → Port × List Byte
  | .reqRhr unit addr qty crc => (.txWire, reqBytes unit addr qty crc)
  | .rspRhr unit byteCount regs crc => (.rxWire, rspBytes unit byteCount regs crc)
  | .rspExc unit func code crc => (.rxWire, excBytes unit func code crc)
  | .nop => (.hostWrite, [0x00, 0x00, 0x00])
  | .encode => (.hostWrite, [0x00, 0x00, 0x01])
  | .decode => (.hostWrite, [0x00, 0x00, 0x02])
  | .execute => (.hostWrite, [0x00, 0x00, 0x03])
  | .crcInit => (.hostWrite, [0x00, 0x00, 0x04])
  | .clear => (.hostWrite, [0x00, 0x00, 0x05])
  | .crcData v => (.hostWrite, [0x13, hiByte v, loByte v])
  | .reset => (.strobe, [0b10000, 0x00])
  | .ioErr => (.strobe, [0b01000, 0x00])
  | .rxByte b => (.strobe, [0b00100, b])
  | .tick => (.strobe, [0b00010, 0x00])
  | .txAccept => (.strobe, [0b00001, 0x00])

/-- The `n` low bytes of `w`, the least significant first. -/
def bytesOf : Nat → Nat → List Byte
  | 0, _ => []
  | n + 1, w => BitVec.ofNat 8 w :: bytesOf n (w / 256)

/-- The port and the bytes that a word numbered as spec/opcode_table.json numbers it stands for (DESIGN CHOICE, log 9).
The table matches a frame on its byte 1, a command on the 16-bit CMD value, CRC_DATA on the address, an event on the
strobe vector (R123), and names no port: a byte that is some row's whole match is that row's, a byte with bit 7 set is
an exception's function code, any other byte is a strobe vector. Everything the word does not give is 0; a success
response so given has one register. -/
def tableBytes (nbits w : Nat) : Port × List Byte :=
  if nbits ≤ 8 then
    if w = 0x13 then (.hostWrite, [0x13, 0, 0])
    else if w = 0x03 then (.rxWire, [0, 0x03, 0, 0, 0, 0, 0])
    else if 0x80 ≤ w then (.rxWire, [0, BitVec.ofNat 8 w, 0, 0, 0])
    else (.strobe, [BitVec.ofNat 8 w, 0])
  else if nbits ≤ 16 then
    if w = 0x103 then (.txWire, [0, 0x03, 0, 0, 0, 0, 0, 0])
    else (.hostWrite, [0x00, BitVec.ofNat 8 (w / 256), BitVec.ofNat 8 w])
  else if nbits = 24 then (.hostWrite, bytesOf 3 w)
  else if nbits = 64 then (.txWire, bytesOf 8 w)
  else (.rxWire, bytesOf ((nbits + 7) / 8) w)

/-- The instruction the decoder reads from a word numbered as the opcode table numbers it (log 9). -/
def decodeTableWord (nbits w : Nat) : Option Instr :=
  match decode (tableBytes nbits w).1 (tableBytes nbits w).2 with
  | .ok i => some i
  | .error _ => none

end Sys2Proof
end

