-- ==== Sys2Proof/Machine/State.lean ====
section
/-! DEFINITION. The state of the core (10_state.md), what stands at its ports, and the state after reset. -/

namespace Sys2Proof.Machine

/-- fsm, the state of the transaction state machine (R46). -/
inductive Fsm where
  /-- 0: no DECODE or EXECUTE in progress. -/
  | idle
  /-- 1: an attempt is sending the request. -/
  | tx
  /-- 2: the request was sent, no response byte has arrived. -/
  | wait
  /-- 3: at least one response byte has arrived. -/
  | recv
  deriving DecidableEq, Repr

/-- mode (R51). -/
inductive Mode where
  /-- 0: the operation is EXECUTE. -/
  | execute
  /-- 1: the operation is DECODE. -/
  | decode
  deriving DecidableEq, Repr

/-- The error kinds of R270. Codes 10 to 15 are produced by no rule and have no constructor (U7, log 11). -/
inductive ErrKind where
  | none
  | invalidRequest
  | timeout
  | frameTooShort
  | crcMismatch
  | unitIdMismatch
  | deviceException
  | transactionFailed
  | ioError
  | malformedResponse
  deriving DecidableEq, Repr

/-- The state of the core, exactly what R20 lists. -/
structure CoreState where
  /-- STATUS.DONE (R22). -/
  done : Bool
  /-- STATUS.OK (R22). -/
  ok : Bool
  /-- STATUS.CMD_ERR (R22, R293). -/
  cmdErr : Bool
  /-- ERR (R23). -/
  err : ErrKind
  /-- LAST_ERR (R24). -/
  lastErr : ErrKind
  /-- ATTEMPTS (R25). -/
  attempts : BitVec 9
  /-- EXC_CODE (R26). -/
  excCode : Byte
  /-- RESP_TIMEOUT (R27). -/
  respTimeout : Word
  /-- IB_TIMEOUT (R28). -/
  ibTimeout : Word
  /-- MAX_RETRIES (R29). -/
  maxRetries : Byte
  /-- REQ_UNIT (R30). -/
  reqUnit : Word
  /-- REQ_FC (R31). -/
  reqFc : Word
  /-- REQ_ADDR (R32). -/
  reqAddr : Word
  /-- REQ_QTY (R33). -/
  reqQty : Word
  /-- RESP_UNIT (R34). -/
  respUnit : Byte
  /-- RESP_FC (R35). -/
  respFc : Byte
  /-- RESP_BC (R36). -/
  respBc : Byte
  /-- RESP_NREG (R37). -/
  respNreg : BitVec 7
  /-- TX_LEN (R38). -/
  txLen : BitVec 4
  /-- CRC_ACC (R39). -/
  crcAcc : Word
  /-- REGS[0..124], the general registers (R40, R57). -/
  regs : Vector Word 125
  /-- TXBUF[0..7] (R41). -/
  txbuf : Vector Byte 8
  /-- RXBUF[0..254] (R44). -/
  rxbuf : Vector Byte 255
  /-- rx_cnt (R45). -/
  rxCnt : BitVec 8
  /-- fsm (R46). -/
  fsm : Fsm
  /-- tx_idx (R47). -/
  txIdx : BitVec 4
  /-- exp_len (R48). -/
  expLen : BitVec 8
  /-- resp_timer (R49). -/
  respTimer : Word
  /-- ib_timer (R50). -/
  ibTimer : Word
  /-- mode (R51). -/
  mode : Mode
  deriving DecidableEq, Repr

/-- The reset values, the complete list of R54. -/
def CoreState.reset : CoreState where
  done := false
  ok := false
  cmdErr := false
  err := .none
  lastErr := .none
  attempts := 0
  excCode := 0
  respTimeout := 0
  ibTimeout := 0
  maxRetries := 0
  reqUnit := 0
  reqFc := 0
  reqAddr := 0
  reqQty := 0
  respUnit := 0
  respFc := 0
  respBc := 0
  respNreg := 0
  txLen := 0
  crcAcc := 0xFFFF
  regs := Vector.replicate 125 0
  txbuf := Vector.replicate 8 0
  rxbuf := Vector.replicate 255 0
  rxCnt := 0
  fsm := .idle
  txIdx := 0
  expLen := 0
  respTimer := 0
  ibTimer := 0
  mode := .execute

/-- The host access of a clock cycle: at most one (R322 item 6). -/
inductive HostAccess where
  /-- Neither h_we nor h_re. -/
  | none
  /-- h_re with h_addr. -/
  | read (a : Byte)
  /-- h_we with h_addr and h_wdata. -/
  | write (a : Byte) (v : Word)
  deriving DecidableEq, Repr

/-- The inputs of one clock cycle (R71 to R76, R310). -/
structure Cycle where
  /-- Port rst. -/
  rst : Bool
  /-- Port io_err. -/
  ioErr : Bool
  /-- Port rx_valid. -/
  rxValid : Bool
  /-- Port tick. -/
  tick : Bool
  /-- Port tx_ready; tx_fire is computed from it when the cycle begins (R322 item 5). -/
  txReady : Bool
  /-- Port rx_data. -/
  rxData : Byte
  /-- The host port. -/
  host : HostAccess
  deriving DecidableEq, Repr

/-- A cycle in which nothing is asserted. -/
def Cycle.quiet : Cycle where
  rst := false
  ioErr := false
  rxValid := false
  tick := false
  txReady := false
  rxData := 0
  host := .none

/-- One event of R8: an instruction of the opcode table, or one of the host accesses the table has no row for. -/
inductive Event where
  /-- An instruction. -/
  | instr (i : Instr)
  /-- A write of a reserved code to CMD (R116). -/
  | reservedCommand
  /-- A write to an address other than CMD and CRC_DATA (R72). -/
  | regWrite (a : Byte) (v : Word)
  /-- HostRead(a) (R72). -/
  | hostRead (a : Byte)
  /-- Bytes on the RX stream that make no frame of the table, and the silence after them (log 3). -/
  | burst (f : List Byte)
  deriving DecidableEq, Repr

/-- What the outside world presents next: a clock cycle, one event as such, or a whole frame on one of the streams
(DESIGN CHOICE, logs 1 to 4). -/
inductive Input where
  /-- One clock cycle. -/
  | cycle (c : Cycle)
  /-- One event, fed to the core by itself (the end of R322); a TxAccept may be handed so where the core
  offers nothing (R240). -/
  | event (e : Event)
  /-- The transport takes a whole frame that reads `f` from the TX stream. -/
  | txFrame (f : List Byte)
  /-- The transport delivers the bytes `f` in order, and then nothing until the frame they are part of has ended. -/
  | rxFrame (f : List Byte)
  deriving DecidableEq, Repr

/-- What stands outside the core, at its ports: the model's own, no state of the spec's core (logs 1, 5). -/
structure PortState where
  /-- What the outside world is going to present, next first. -/
  inputs : List Input
  /-- The events of the cycle begun that are still to be processed, in the order of R322. -/
  events : List Event
  /-- The bytes handed to the transport so far, oldest first (R73, R328). -/
  txStream : List Byte
  /-- The value the last HostRead returned (R72). -/
  hRdata : Word
  deriving DecidableEq, Repr

/-- Nothing presented, nothing sent, nothing read yet (DESIGN CHOICE, logs 1, 5). -/
def PortState.initial : PortState where
  inputs := []
  events := []
  txStream := []
  hRdata := 0

/-- The whole machine: the core and what stands at its ports. -/
structure State where
  /-- The core (R20). -/
  core : CoreState
  /-- The ports. -/
  port : PortState
  deriving DecidableEq, Repr

/-- The machine right after Reset (R311), with nothing presented at the ports. -/
def State.reset : State where
  core := CoreState.reset
  port := PortState.initial

/-- Why the machine could stop with a fault: never. The core has no traps (60_exceptions.md) and every event has an
effect in every state (R238), so no meaning raises a fault and the type has no constructor (log 12). -/
inductive Fault where
  deriving DecidableEq, Repr

/-- Why the machine could have no meaning for an instruction. -/
inductive Refusal where
  /-- Raised by an arm of `exec` whose instruction has no meaning yet; safe. No arm raises it (log 12). -/
  | notModelled (mnemonic : String)
  deriving DecidableEq, Repr

end Sys2Proof.Machine
end

