-- ==== Sys2Proof/Machine/Flags.lean ====
section
/-! DEFINITION. STATUS, the codes of its fields, and the outputs: all functions of the state (rules R22, R46, R51, R56,
R270). -/

namespace Sys2Proof.Machine

/-- The code of fsm (R46). -/
def fsmCode : Fsm → BitVec 2
  | .idle => 0
  | .tx => 1
  | .wait => 2
  | .recv => 3

/-- The code of mode (R51). -/
def modeCode : Mode → BitVec 1
  | .execute => 0
  | .decode => 1

/-- The code of an error kind (R270). -/
def errCode : ErrKind → BitVec 4
  | .none => 0
  | .invalidRequest => 1
  | .timeout => 2
  | .frameTooShort => 3
  | .crcMismatch => 4
  | .unitIdMismatch => 5
  | .deviceException => 6
  | .transactionFailed => 7
  | .ioError => 8
  | .malformedResponse => 9

/-- The retryable set (R272). -/
def retryable : ErrKind → Bool
  | .timeout | .frameTooShort | .crcMismatch | .unitIdMismatch | .malformedResponse => true
  | .none | .invalidRequest | .deviceException | .transactionFailed | .ioError => false

/-- STATUS.BUSY, and the output `busy` (R22, R56). -/
def busy (k : CoreState) : Bool :=
  match k.fsm with
  | .idle => false
  | .tx => true
  | .wait => true
  | .recv => true

/-- STATUS as one word (R22). -/
def status (k : CoreState) : Word :=
  (0#9 ++ modeCode k.mode ++ fsmCode k.fsm ++ BitVec.ofBool k.cmdErr ++ BitVec.ofBool k.ok ++ BitVec.ofBool k.done
    ++ BitVec.ofBool (busy k) : BitVec 16)

/-- The output `tx_valid` (R56). -/
def txValid (k : CoreState) : Bool :=
  match k.fsm with
  | .idle => false
  | .tx => true
  | .wait => false
  | .recv => false

/-- The output `tx_data` (R56). tx_idx is 0 to 7 in TX (R47); beyond, where no run comes, it reads 0 (log 6). -/
def txData (k : CoreState) : Byte :=
  if txValid k then k.txbuf.getD k.txIdx.toNat 0 else 0

end Sys2Proof.Machine
end

