-- ==== Sys2Proof/Machine/Operands.lean ====
section
/-! DEFINITION. The operands of commands and events: the request registers, the request frame they give, the collected
frame, the timeouts (41_encoder.md, rules R45, R186, R288). -/

namespace Sys2Proof.Machine

/-- `valid_request(unit, fc, addr, qty)` (R160, R161, R166): the full 16-bit values are compared, `addr` is not. -/
def validRequest (unit fc _addr qty : Word) : Bool :=
  decide (unitMin ≤ unit.toNat) && decide (unit.toNat ≤ unitMax) && fc == fcRhr.setWidth 16
    && decide (qtyMin ≤ qty.toNat) && decide (qty.toNat ≤ qtyMax)

/-- Whether the request registers hold a valid request. -/
def requestOk (k : CoreState) : Bool := validRequest k.reqUnit k.reqFc k.reqAddr k.reqQty

/-- `encode(unit, fc, addr, qty)` (R162): the body, big-endian fields, then its CRC, low byte first. -/
def encodeAdu (unit fc addr qty : Word) : Vector Byte 8 :=
  let c := crc16 [loByte unit, loByte fc, hiByte addr, loByte addr, hiByte qty, loByte qty]
  #v[loByte unit, loByte fc, hiByte addr, loByte addr, hiByte qty, loByte qty, loByte c, hiByte c]

/-- The request frame of the request registers. -/
def requestFrame (k : CoreState) : Vector Byte 8 := encodeAdu k.reqUnit k.reqFc k.reqAddr k.reqQty

/-- exp_len as computed when DECODE or EXECUTE is accepted (R186). -/
def expectedLength (k : CoreState) : BitVec 8 := BitVec.ofNat 8 (rspLen k.reqQty.toNat)

/-- The frame collected so far: `RXBUF[0 .. rx_cnt-1]` (R45, R188). -/
def collectedFrame (k : CoreState) : List Byte := k.rxbuf.toList.take k.rxCnt.toNat

/-- Ticks of silence that end a frame: IB_TIMEOUT, or 1 where it is 0 (R184, R288). -/
def silenceTicks (k : CoreState) : Nat := max 1 k.ibTimeout.toNat

/-- Byte `i` of a frame; rules R189 to R198 read only bytes the frame has. -/
def frameByte (f : List Byte) (i : Nat) : Byte := f.getD i 0

end Sys2Proof.Machine
end

