-- ==== Sys2Proof/Machine/Ops.lean ====
section
/-! DEFINITION. The operations the rules share: clearing results, starting an attempt, completing, raising an error,
refusing a command, and the host's view of the registers. -/

namespace Sys2Proof.Machine

/-- Apply an effect on the core to the machine; the ports stay. -/
def State.mapCore (f : CoreState → CoreState) (s : State) : State := { s with core := f s.core }

/-- `clear_results()` (R239). -/
def clearResults (k : CoreState) : CoreState :=
  { k with
    done := false, ok := false, err := .none, lastErr := .none, attempts := 0, excCode := 0
    respUnit := 0, respFc := 0, respBc := 0, respNreg := 0 }

/-- `start_attempt()` (R222). -/
def startAttempt (k : CoreState) : CoreState := { k with rxCnt := 0, txIdx := 0, fsm := .tx }

/-- `complete(ok, err)` (R276), the single place where DONE is set. -/
def complete (ok : Bool) (err : ErrKind) (k : CoreState) : CoreState :=
  { k with err := err, ok := ok, done := true, rxCnt := 0, fsm := .idle }

/-- LAST_ERR takes the error and the collected frame is discarded (R199, R227). -/
def discardFrame (e : ErrKind) (k : CoreState) : CoreState := { k with lastErr := e, rxCnt := 0 }

/-- A retry: ATTEMPTS counts one more send, and the next attempt starts (R227). -/
def retryAttempt (k : CoreState) : CoreState := startAttempt { k with attempts := k.attempts + 1 }

/-- `fail(e)` for a retryable error (R227, R277, R278): DECODE ends with the error itself; EXECUTE starts the next
attempt while a retry is left, and else ends with TransactionFailed. -/
def fail (e : ErrKind) (k : CoreState) : CoreState :=
  match k.mode with
  | .decode => complete false e (discardFrame e k)
  | .execute =>
    if k.attempts.toNat ≤ k.maxRetries.toNat then retryAttempt (discardFrame e k)
    else complete false .transactionFailed (discardFrame e k)

/-- `raise e` (R277, R278, R279), the one operation in place of taking an exception: a retryable error fails the
attempt, any other completes the command with its own code and leaves LAST_ERR. -/
def raise (e : ErrKind) (k : CoreState) : CoreState :=
  if retryable e then fail e k else complete false e k

/-- A refused command or register write: CMD_ERR is set and nothing else changes (R233, R234). -/
def refuse (k : CoreState) : CoreState := { k with cmdErr := true }

/-- A command accepted only when BUSY = 0 (R108); else it is refused (R233). -/
def whenIdle (act : CoreState → CoreState) (k : CoreState) : CoreState :=
  if busy k then refuse k else act k

/-- HostRead(a) (R72): the register map of R20, each register zero-extended; write-only and reserved addresses read 0
(R43). -/
def hostReadValue (a : Byte) (k : CoreState) : Word :=
  match a.toNat with
  | 0x01 => status k
  | 0x02 => (errCode k.err).setWidth 16
  | 0x03 => (errCode k.lastErr).setWidth 16
  | 0x04 => k.attempts.setWidth 16
  | 0x05 => k.excCode.setWidth 16
  | 0x06 => k.respTimeout
  | 0x07 => k.ibTimeout
  | 0x08 => k.maxRetries.setWidth 16
  | 0x09 => k.reqUnit
  | 0x0A => k.reqFc
  | 0x0B => k.reqAddr
  | 0x0C => k.reqQty
  | 0x0D => k.respUnit.setWidth 16
  | 0x0E => k.respFc.setWidth 16
  | 0x0F => k.respBc.setWidth 16
  | 0x10 => k.respNreg.setWidth 16
  | 0x11 => k.txLen.setWidth 16
  | 0x12 => k.crcAcc
  | n =>
    if 0x20 ≤ n ∧ n ≤ 0x27 then (k.txbuf.getD (n - 0x20) 0).setWidth 16
    else if 0x80 ≤ n ∧ n ≤ 0xFC then k.regs.getD (n - 0x80) 0
    else 0

/-- Store into a read-write register (R72): MAX_RETRIES keeps the low byte (R29); no other address is read-write
(R43). -/
def storeRegister (a : Byte) (v : Word) (k : CoreState) : CoreState :=
  match a.toNat with
  | 0x06 => { k with respTimeout := v }
  | 0x07 => { k with ibTimeout := v }
  | 0x08 => { k with maxRetries := loByte v }
  | 0x09 => { k with reqUnit := v }
  | 0x0A => { k with reqFc := v }
  | 0x0B => { k with reqAddr := v }
  | 0x0C => { k with reqQty := v }
  | _ => k

/-- HostWrite(a, v) for an address other than CMD and CRC_DATA (R72): the request and configuration registers are
stored when BUSY = 0 and refused when BUSY = 1 (R234); every other address is ignored (R43). -/
def hostWriteRegister (a : Byte) (v : Word) (k : CoreState) : CoreState :=
  if 0x06 ≤ a.toNat ∧ a.toNat ≤ 0x0C then
    if busy k then refuse k else storeRegister a v k
  else k

end Sys2Proof.Machine
end

