-- ==== Sys2Proof/Machine/CrcPort.lean ====
section
/-! DEFINITION. The host CRC port: CRC_INIT and CRC_DATA (rules R143 to R146). -/

namespace Sys2Proof.Machine

/-- CRC_INIT (R143): accepted in every state. -/
def execCrcInit (s : State) : Host.Outcome State Fault Refusal :=
  .next (s.mapCore fun k => { k with crcAcc := crcInitial })

/-- CRC_DATA (R144): feeds `v[7:0]`, in every state; `v[15:8]` is ignored. -/
def execCrcData (v : Word) (s : State) : Host.Outcome State Fault Refusal :=
  .next (s.mapCore fun k => { k with crcAcc := crcStep k.crcAcc (loByte v) })

end Sys2Proof.Machine
end

