-- ==== Sys2Proof/Machine/Decoder.lean ====
section
/-! DEFINITION. The Frame Decoder: validation, the frame's end, received bytes, the DECODE command, and whole frames on
the RX stream (42_decoder.md). -/

namespace Sys2Proof.Machine

/-- The verdict of `validate` (R188, R189). -/
inductive Verdict where
  /-- Ok(regs). -/
  | ok (regs : List Word)
  /-- DeviceException(code). -/
  | deviceException (code : Byte)
  /-- One of FrameTooShort, CrcMismatch, UnitIdMismatch, MalformedResponse. -/
  | error (e : ErrKind)
  deriving DecidableEq, Repr

/-- The CRC a frame carries in its last two bytes, low byte first (R106). -/
def receivedCrc (f : List Byte) : Word :=
  joinBytes (frameByte f (f.length - 1)) (frameByte f (f.length - 2))

/-- The register values of a success response: big-endian pairs from offset 3 (R196). -/
def extractRegs (f : List Byte) (qty : Nat) : List Word :=
  (List.range qty).map fun i => joinBytes (frameByte f (3 + 2 * i)) (frameByte f (4 + 2 * i))

/-- `validate(f, unit, fc, qty)` (R189 to R196): six checks in a fixed order, the first that fails decides. -/
def validate (f : List Byte) (unit fc qty : Word) : Verdict :=
  if f.length < minFrame then .error .frameTooShort
  else if crc16 (f.take (f.length - 2)) ≠ receivedCrc f then .error .crcMismatch
  else if (frameByte f 1).getLsbD 7 then
    if f.length = excLen then .deviceException (frameByte f 2) else .error .malformedResponse
  else if frameByte f 0 ≠ loByte unit then .error .unitIdMismatch
  else if frameByte f 1 ≠ loByte fc then .error .malformedResponse
  else if f.length ≠ rspLen qty.toNat ∨ (frameByte f 2).toNat ≠ 2 * qty.toNat then .error .malformedResponse
  else .ok (extractRegs f qty.toNat)

/-- REGS[0 ..] take the values of `l` in order; the entries beyond keep theirs (R197). -/
def storeRegs (v : Vector Word 125) (l : List Word) : Vector Word 125 :=
  Vector.ofFn fun i => l.getD i v[i]

/-- `write_response(f, regs)` (R197). -/
def writeResponse (f : List Byte) (regs : List Word) (k : CoreState) : CoreState :=
  complete true .none
    { k with
      respUnit := frameByte f 0, respFc := frameByte f 1, respBc := frameByte f 2
      regs := storeRegs k.regs regs
      respNreg := k.reqQty.setWidth 7 }

/-- `write_exception(f, code)` (R198). -/
def writeException (f : List Byte) (code : Byte) (k : CoreState) : CoreState :=
  raise .deviceException { k with respUnit := frameByte f 0, respFc := frameByte f 1, excCode := code }

/-- `frame_end()` (R188). -/
def frameEnd (k : CoreState) : CoreState :=
  match validate (collectedFrame k) k.reqUnit k.reqFc k.reqQty with
  | .ok regs => writeResponse (collectedFrame k) regs k
  | .deviceException code => writeException (collectedFrame k) code k
  | .error e => raise e k

/-- `RXBUF[rx_cnt] <- b; rx_cnt <- rx_cnt + 1; ib_timer <- 0` (R183). rx_cnt is below 255 wherever a run comes (R53
item 4); at 255 there is no such entry and none is written (log 6). -/
def takeByte (b : Byte) (k : CoreState) : CoreState :=
  { k with rxbuf := k.rxbuf.setIfInBounds k.rxCnt.toNat b, rxCnt := k.rxCnt + 1, ibTimer := 0 }

/-- `RXBUF[0] <- b; rx_cnt <- 1; ib_timer <- 0; fsm <- RECV` (R182). -/
def takeFirstByte (b : Byte) (k : CoreState) : CoreState :=
  { k with rxbuf := k.rxbuf.set 0 b, rxCnt := 1, ibTimer := 0, fsm := .recv }

/-- The event RxByte(b): the first byte in WAIT (R182), a further byte in RECV (R183, R185), dropped in IDLE and TX
(R187). -/
def rxByteEvent (b : Byte) (k : CoreState) : CoreState :=
  match k.fsm with
  | .idle => k
  | .tx => k
  | .wait => takeFirstByte b k
  | .recv => if (takeByte b k).rxCnt = k.expLen then frameEnd (takeByte b k) else takeByte b k

/-- A Tick in WAIT counts resp_timer (R224, R286). -/
def countWait (k : CoreState) : CoreState := { k with respTimer := k.respTimer + 1 }

/-- A Tick in RECV counts both timers (R225, R286, R287). -/
def countRecv (k : CoreState) : CoreState := { k with respTimer := k.respTimer + 1, ibTimer := k.ibTimer + 1 }

/-- Whether a timer has reached its limit, compared after the increment (R288): a limit of 0 behaves as 1. -/
def expired (timer limit : Word) : Bool := decide (limit.toNat ≤ timer.toNat)

/-- The event Tick: in WAIT the response timer counts and may expire (R224); in RECV both timers count and the
inter-byte timer is tested first (R225); elsewhere nothing (R226). -/
def tickEvent (k : CoreState) : CoreState :=
  match k.fsm with
  | .idle => k
  | .tx => k
  | .wait =>
    if expired (countWait k).respTimer k.respTimeout then raise .timeout (countWait k) else countWait k
  | .recv =>
    if expired (countRecv k).ibTimer k.ibTimeout then frameEnd (countRecv k)
    else if expired (countRecv k).respTimer k.respTimeout then raise .timeout (countRecv k)
    else countRecv k

/-- `n` Ticks in a row. -/
def ticks : Nat → CoreState → CoreState
  | 0, k => k
  | n + 1, k => ticks n (tickEvent k)

/-- The bytes of `f` as RxByte events, in order (R74). -/
def deliver (f : List Byte) (k : CoreState) : CoreState := f.foldl (fun k b => rxByteEvent b k) k

/-- A whole frame on the RX stream: its bytes, then the silence that ends a frame which its length has not ended
(R119, R184, R185; DESIGN CHOICE, log 3). Where the frame has ended before, the Ticks find IDLE or TX and do nothing. -/
def receiveFrame (f : List Byte) (k : CoreState) : CoreState := ticks (silenceTicks k) (deliver f k)

/-- The response window of a DECODE opens (R181). -/
def startDecode (k : CoreState) : CoreState :=
  { k with mode := .decode, expLen := expectedLength k, rxCnt := 0, respTimer := 0, ibTimer := 0, fsm := .wait }

/-- `do_decode()` (R181). -/
def doDecode (k : CoreState) : CoreState :=
  if requestOk k then startDecode (clearResults k)
  else raise .invalidRequest (clearResults k)

/-- DECODE (R181, R233). -/
def execDecode (s : State) : Host.Outcome State Fault Refusal :=
  .next (s.mapCore (whenIdle doDecode))

/-- RXBYTE (R182, R183, R187). -/
def execRxByte (b : Byte) (s : State) : Host.Outcome State Fault Refusal :=
  .next (s.mapCore (rxByteEvent b))

/-- RSP_RHR: a whole success response arrives (R102, R189; log 3). -/
def execRspRhr (unit byteCount : Byte) (regs : List Word) (crc : Word) (s : State) :
    Host.Outcome State Fault Refusal :=
  .next (s.mapCore (receiveFrame (rspBytes unit byteCount regs crc)))

/-- RSP_EXC: a whole exception response arrives (R103, R192; log 3). -/
def execRspExc (unit : Byte) (func : BitVec 7) (code : Byte) (crc : Word) (s : State) :
    Host.Outcome State Fault Refusal :=
  .next (s.mapCore (receiveFrame (excBytes unit func code crc)))

end Sys2Proof.Machine
end

