-- ==== Sys2Proof/Machine/Encoder.lean ====
section
/-! DEFINITION. The Frame Encoder: the ENCODE command (41_encoder.md). -/

namespace Sys2Proof.Machine

/-- TXBUF and TX_LEN take the request frame (R163, R221). -/
def loadRequest (k : CoreState) : CoreState := { k with txbuf := requestFrame k, txLen := 8 }

/-- A refused request of ENCODE or EXECUTE: TX_LEN says nothing of TXBUF is valid, and InvalidRequest is raised
(R163, R221, D32). -/
def rejectRequest (k : CoreState) : CoreState := raise .invalidRequest { k with txLen := 0 }

/-- `do_encode()` (R163). -/
def doEncode (k : CoreState) : CoreState :=
  if requestOk k then complete true .none (loadRequest (clearResults k))
  else rejectRequest (clearResults k)

/-- ENCODE (R163, R233). -/
def execEncode (s : State) : Host.Outcome State Fault Refusal :=
  .next (s.mapCore (whenIdle doEncode))

end Sys2Proof.Machine
end

