-- ==== Sys2Proof/Machine/Transaction.lean ====
section
/-! DEFINITION. The Transaction Cycle: EXECUTE, CLEAR, NOP, the events TxAccept, Tick, IoError and Reset, and the whole
request frame on the TX stream (43_transaction.md, 70_reset_and_hazards.md). -/

namespace Sys2Proof.Machine

/-- The first attempt of an EXECUTE: mode, exp_len, ATTEMPTS = 1, and the start (R221, R222). -/
def startExecute (k : CoreState) : CoreState :=
  startAttempt { k with mode := .execute, expLen := expectedLength k, attempts := 1 }

/-- `do_execute()` (R221). -/
def doExecute (k : CoreState) : CoreState :=
  if requestOk k then startExecute (loadRequest (clearResults k))
  else rejectRequest (clearResults k)

/-- EXECUTE (R221, R233). -/
def execExecute (s : State) : Host.Outcome State Fault Refusal :=
  .next (s.mapCore (whenIdle doExecute))

/-- The acceptance of the last byte: the response window opens (R223). -/
def openWindow (k : CoreState) : CoreState := { k with txIdx := 8, respTimer := 0, ibTimer := 0, fsm := .wait }

/-- The event TxAccept on the core (R223); outside TX it leaves the state unchanged (R240). -/
def txAcceptEvent (k : CoreState) : CoreState :=
  match k.fsm with
  | .idle => k
  | .tx =>
    if k.txIdx.toNat < 7 then { k with txIdx := k.txIdx + 1 }
    else openWindow k
  | .wait => k
  | .recv => k

/-- The event TxAccept: the transport takes `tx_data` as it stood before (R73), if the core offers a byte. -/
def acceptByte (s : State) : State :=
  if txValid s.core then
    { core := txAcceptEvent s.core, port := { s.port with txStream := s.port.txStream ++ [txData s.core] } }
  else s

/-- `n` TxAccept events in a row. -/
def acceptBytes : Nat → State → State
  | 0, s => s
  | n + 1, s => acceptBytes n (acceptByte s)

/-- TXACCEPT (R223, R240). -/
def execTxAccept (s : State) : Host.Outcome State Fault Refusal := .next (acceptByte s)

/-- Whether the core offers the whole frame `f`: it is in TX, has handed over nothing of TXBUF yet, and TXBUF reads
`f`. -/
def offersFrame (f : List Byte) (k : CoreState) : Bool :=
  txValid k && k.txIdx == 0 && k.txbuf.toList == f

/-- REQ_RHR: the transport takes the whole request frame, eight TxAccept events. A frame the core does not offer cannot
be taken, and the state is left unchanged as R240 has it for a byte (DEDUCED, log 4). -/
def execReqRhr (unit : Byte) (addr qty crc : Word) (s : State) : Host.Outcome State Fault Refusal :=
  if offersFrame (reqBytes unit addr qty crc) s.core then .next (acceptBytes reqLen s) else .next s

/-- TICK (R224, R225, R226). -/
def execTick (s : State) : Host.Outcome State Fault Refusal := .next (s.mapCore tickEvent)

/-- The event IoError (R230). -/
def ioErrorEvent (k : CoreState) : CoreState := if busy k then raise .ioError k else k

/-- IOERR (R230). -/
def execIoErr (s : State) : Host.Outcome State Fault Refusal := .next (s.mapCore ioErrorEvent)

/-- CLEAR's effect (R231). -/
def clearFlags (k : CoreState) : CoreState := { k with done := false, ok := false, cmdErr := false }

/-- CLEAR (R231, R233). -/
def execClear (s : State) : Host.Outcome State Fault Refusal := .next (s.mapCore (whenIdle clearFlags))

/-- NOP (R232). -/
def execNop (s : State) : Host.Outcome State Fault Refusal := .next s

/-- RESET (R310, R311): every piece of the core's state takes its reset value. The bytes already handed over stay
handed over (R312). -/
def execReset (s : State) : Host.Outcome State Fault Refusal := .next (s.mapCore fun _ => CoreState.reset)

end Sys2Proof.Machine
end

