-- ==== Sys2Proof/Machine/Dispatch.lean ====
section
/-! DEFINITION. Each instruction's meaning. -/

namespace Sys2Proof.Machine

def exec (i : Instr) (s : State) : Host.Outcome State Fault Refusal :=
  match i with
  | .reqRhr unit addr qty crc => Sys2Proof.Machine.execReqRhr unit addr qty crc s
  | .rspRhr unit byteCount regs crc => Sys2Proof.Machine.execRspRhr unit byteCount regs crc s
  | .rspExc unit func code crc => Sys2Proof.Machine.execRspExc unit func code crc s
  | .nop => Sys2Proof.Machine.execNop s
  | .encode => Sys2Proof.Machine.execEncode s
  | .decode => Sys2Proof.Machine.execDecode s
  | .execute => Sys2Proof.Machine.execExecute s
  | .crcInit => Sys2Proof.Machine.execCrcInit s
  | .clear => Sys2Proof.Machine.execClear s
  | .crcData v => Sys2Proof.Machine.execCrcData v s
  | .reset => Sys2Proof.Machine.execReset s
  | .ioErr => Sys2Proof.Machine.execIoErr s
  | .rxByte b => Sys2Proof.Machine.execRxByte b s
  | .tick => Sys2Proof.Machine.execTick s
  | .txAccept => Sys2Proof.Machine.execTxAccept s

end Sys2Proof.Machine
end

