-- ==== Sys2Proof/Machine/Ports.lean ====
section
/-! DEFINITION. From what stands at the ports to the next event: one clock cycle's inputs in the order of R322, and the
host accesses that are no instruction (20_memory.md, 70_reset_and_hazards.md section 4). -/

namespace Sys2Proof.Machine

/-- `tx_fire = tx_valid & tx_ready` (R111), evaluated with `tx_valid` of the start of the cycle (R322 item 5). -/
def txFire (k : CoreState) (c : Cycle) : Bool := txValid k && c.txReady

/-- The strobe vector `rst, io_err, rx_valid, tick, tx_fire`, bit 4 first (R111). -/
def strobeVector (k : CoreState) (c : Cycle) : BitVec 5 :=
  BitVec.ofBool c.rst ++ BitVec.ofBool c.ioErr ++ BitVec.ofBool c.rxValid ++ BitVec.ofBool c.tick
    ++ BitVec.ofBool (txFire k c)

/-- The events of a strobe vector, one after another (R322); `fuel` is at least the number of strobes set. -/
def strobeEvents : Nat → BitVec 5 → Byte → List Event
  | 0, _, _ => []
  | fuel + 1, v, rxData =>
    match firstStrobe v rxData with
    | some (i, rest) => .instr i :: strobeEvents fuel rest rxData
    | none => []

/-- The event of a host write (R72, R108, R110). -/
def hostWriteEvent (a : Byte) (v : Word) : Event :=
  match decode .hostWrite [a, hiByte v, loByte v] with
  | .ok i => .instr i
  | .error .reservedCommand => .reservedCommand
  | .error _ => .regWrite a v

/-- The event of the host port, last in its cycle (R322 item 6). -/
def hostEvents : HostAccess → List Event
  | .none => []
  | .read a => [.hostRead a]
  | .write a v => [hostWriteEvent a v]

/-- The events of a clock cycle (R322). With rst the other inputs are ignored. -/
def cycleEvents (k : CoreState) (c : Cycle) : List Event :=
  if c.rst then [.instr .reset] else strobeEvents 5 (strobeVector k c) c.rxData ++ hostEvents c.host

/-- The events an input stands for. -/
def inputEvents (k : CoreState) : Input → List Event
  | .cycle c => cycleEvents k c
  | .event e => [e]
  | .txFrame f =>
    match decode .txWire f with
    | .ok i => [.instr i]
    | .error _ => []
  | .rxFrame f =>
    match decode .rxWire f with
    | .ok i => [.instr i]
    | .error _ => [.burst f]

/-- The byte a transport takes in a cycle whose IoError ends the transaction first: the TxAccept of that cycle then has
no effect on the core, "though the transport did take the byte" (R322 item 5; log 2). -/
def takenAnyway (k : CoreState) : Input → List Byte
  | .cycle c => if !c.rst && c.ioErr && txFire k c then [txData k] else []
  | .event _ => []
  | .txFrame _ => []
  | .rxFrame _ => []

/-- Take the next event: the next one of the cycle begun, or else the first of the next input. Where nothing is
presented there is none. -/
def fetch (s : State) : Option Event × State :=
  match s.port.events with
  | e :: es => (some e, { s with port := { s.port with events := es } })
  | [] =>
    match s.port.inputs with
    | [] => (none, s)
    | x :: xs =>
      let taken := s.port.txStream ++ takenAnyway s.core x
      match inputEvents s.core x with
      | [] => (none, { s with port := { s.port with inputs := xs, txStream := taken } })
      | e :: es => (some e, { s with port := { s.port with inputs := xs, events := es, txStream := taken } })

/-- HostRead(a): the host receives the value, the core does not change (R72, R236). -/
def hostRead (a : Byte) (s : State) : State :=
  { s with port := { s.port with hRdata := hostReadValue a s.core } }

/-- Process one event. -/
def runEvent (e : Event) (s : State) : Host.Outcome State Fault Refusal :=
  match e with
  | .instr i => exec i s
  | .reservedCommand => .next (s.mapCore refuse)
  | .regWrite a v => .next (s.mapCore (hostWriteRegister a v))
  | .hostRead a => .next (hostRead a s)
  | .burst f => .next (s.mapCore (receiveFrame f))

/-- One step: one event (R8), or none where nothing is presented. -/
def stepOnce (s : State) : Host.Outcome State Fault Refusal :=
  match fetch s with
  | (some e, t) => runEvent e t
  | (none, t) => .next t

/-- What the outside world presents so that a port carries given bytes: the inverse of reading a port. A strobe vector
that stands for one event is that event, whatever state the core is in; one of several events is a clock cycle, which
forms its own tx_fire (log 2). Bytes of a length the host port or the strobe port does not have assert nothing. -/
def portInput (p : Port) (bs : List Byte) : Input :=
  match p with
  | .hostWrite =>
    match bs with
    | [a, hi, lo] => .cycle { Cycle.quiet with host := .write a (joinBytes hi lo) }
    | _ => .cycle Cycle.quiet
  | .strobe =>
    match bs with
    | [v, rxData] =>
      match strobeEvents 5 (v.setWidth 5) rxData with
      | [e] => .event e
      | _ =>
        .cycle
          { rst := v.getLsbD 4, ioErr := v.getLsbD 3, rxValid := v.getLsbD 2, tick := v.getLsbD 1
            txReady := v.getLsbD 0, rxData := rxData, host := .none }
    | _ => .cycle Cycle.quiet
  | .txWire => .txFrame bs
  | .rxWire => .rxFrame bs

/-- Present an input as the next one, before what was going to be presented; the cycle begun is done. -/
def present (x : Input) (s : State) : State :=
  { s with port := { s.port with inputs := x :: s.port.inputs, events := [] } }

end Sys2Proof.Machine
end

