-- ==== Sys2Proof/Machine/Step.lean ====
section
/-! DEFINITION. The step, and how an instruction is placed where the step takes its next one. -/

namespace Sys2Proof.Machine

/-- One step of the machine (R8). -/
def step (s : State) : Host.Outcome State Fault Refusal := stepOnce s

/-- `s` with the instruction whose bits, numbered as the opcode table numbers them, are `w` presented next at its port
(log 1, log 9). -/
def State.withFetchWord (s : State) (nbits w : Nat) : State :=
  present (portInput (tableBytes nbits w).1 (tableBytes nbits w).2) s

end Sys2Proof.Machine
end

