-- ==== Sys2Proof/Safety.lean ====
section
/-! DEFINITION. The terms in which claims are stated: the invariants of R53, running a list of instructions or events,
the end and the result of a run (R328), the assumptions on the environment (R320, R324). -/

namespace Sys2Proof.Machine

/-- The invariants of R53, and what R270, R274, R316 and R237 say of every reachable state, as one property of the
core. Item numbers are R53's; item 1 is the definition of `busy`. -/
structure CoreState.Inv (k : CoreState) : Prop where
  /-- Item 2: while BUSY, DONE is 0. -/
  busy_done : busy k = true → k.done = false
  /-- Item 2: OK implies DONE. -/
  ok_done : k.ok = true → k.done = true
  /-- Item 3: when DONE, OK says ERR = 0. -/
  done_ok : k.done = true → (k.ok = true ↔ k.err = .none)
  /-- Item 4: outside RECV nothing is collected. -/
  rxCnt_zero : k.fsm ≠ .recv → k.rxCnt = 0
  /-- Item 4: in RECV at least one byte and fewer than exp_len. -/
  rxCnt_recv : k.fsm = .recv → 1 ≤ k.rxCnt.toNat ∧ k.rxCnt.toNat < k.expLen.toNat
  /-- Item 5. -/
  tx_idx : k.fsm = .tx → k.txIdx.toNat ≤ 7 ∧ k.txLen = 8 ∧ k.mode = .execute
  /-- Item 6: the request stays valid and exp_len is that of its quantity. -/
  busy_request : busy k = true →
    1 ≤ k.reqUnit.toNat ∧ k.reqUnit.toNat ≤ 247 ∧ k.reqFc = 3 ∧ 1 ≤ k.reqQty.toNat ∧ k.reqQty.toNat ≤ 125
      ∧ k.expLen.toNat = 5 + 2 * k.reqQty.toNat
  /-- Item 5 and R41: an EXECUTE in progress keeps its eight bytes valid, for a retry sends them again. -/
  busy_txLen : busy k = true → k.mode = .execute → k.txLen = 8
  /-- Items 5 and 7: the attempts of an EXECUTE in progress. -/
  busy_attempts : busy k = true → k.mode = .execute →
    1 ≤ k.attempts.toNat ∧ k.attempts.toNat ≤ k.maxRetries.toNat + 1
  /-- A DECODE in progress has sent nothing (R181). -/
  decode_attempts : busy k = true → k.mode = .decode → k.attempts = 0
  /-- Item 8. -/
  nreg : k.respNreg ≠ 0 → k.err = .none ∧ k.respBc.toNat = 2 * k.respNreg.toNat
  /-- Item 9: EXC_CODE is 0 unless the last completion was a DeviceException. -/
  exc_code : k.err ≠ .deviceException → k.excCode = 0
  /-- Item 10: a running timer has not reached its limit. -/
  timers : k.fsm = .wait ∨ k.fsm = .recv →
    k.respTimer.toNat < max 1 k.respTimeout.toNat ∧ k.ibTimer.toNat < max 1 k.ibTimeout.toNat
  /-- While BUSY the result registers are those cleared at acceptance (R316). -/
  busy_results : busy k = true →
    k.ok = false ∧ k.err = .none ∧ k.excCode = 0 ∧ k.respUnit = 0 ∧ k.respFc = 0 ∧ k.respBc = 0 ∧ k.respNreg = 0
  /-- LAST_ERR holds None or a retryable kind (R270). -/
  last_err : k.lastErr = .none ∨ retryable k.lastErr = true
  /-- A retryable kind in ERR comes from DECODE (R270) and stands in LAST_ERR too (R278). -/
  err_decode : retryable k.err = true → k.mode = .decode ∧ k.lastErr = k.err
  /-- TransactionFailed comes from EXECUTE (R270) and wraps a retryable error (R274). -/
  err_wrapped : k.err = .transactionFailed → k.mode = .execute ∧ retryable k.lastErr = true
  /-- TX_LEN is 0 or 8 (R38). -/
  tx_len : k.txLen = 0 ∨ k.txLen = 8
  /-- The counters' ranges (R37, R47, R237). -/
  ranges : k.attempts.toNat ≤ 256 ∧ k.txIdx.toNat ≤ 8 ∧ k.respNreg.toNat ≤ 125

/-- The invariant of the whole machine: that of the core. What stands at the ports is anything. -/
def State.Inv (s : State) : Prop := s.core.Inv

/-- Run instructions one after another. -/
def execAll : List Instr → State → Host.Outcome State Fault Refusal
  | [], s => .next s
  | i :: is, s =>
    match exec i s with
    | .next t => execAll is t
    | .fault r => .fault r
    | .refused r => .refused r

/-- Process events one after another. -/
def runAll : List Event → State → Host.Outcome State Fault Refusal
  | [], s => .next s
  | e :: es, s =>
    match runEvent e s with
    | .next t => runAll es t
    | .fault r => .fault r
    | .refused r => .refused r

/-- The end of a run on one command (R328): from `s` in IDLE the command `e` is accepted, the events `es` follow with no
Reset among them, and `t` is the first state after the acceptance with DONE = 1. -/
structure RunEnds (e : Event) (es : List Event) (s t : State) : Prop where
  /-- The command is accepted. -/
  accepted : s.core.fsm = .idle
  /-- It is one of the three that complete. -/
  command : e = .instr .encode ∨ e = .instr .decode ∨ e = .instr .execute
  /-- A run that is reset has no end. -/
  not_reset : Event.instr .reset ∉ es
  /-- The events lead to `t`. -/
  leads : runAll (e :: es) s = .next t
  /-- DONE = 1 there. -/
  done : t.core.done = true
  /-- And at no state before. -/
  first : ∀ (es' : List Event) (u : State), es' <+: es → es' ≠ es → runAll (e :: es') s = .next u → u.core.done = false

/-- An endless run: `ss n` is the state before the event `es n`. -/
def IsRun (es : Nat → Event) (ss : Nat → State) : Prop := ∀ n, runEvent (es n) (ss n) = .next (ss (n + 1))

/-- The fairness assumption on the transport's send side, which R320 says a model must list (D17, U11; log 14): a byte that
is offered does not stay offered for ever, it is taken (alone, or with its whole frame), or `io_err` is raised. The model
assumes it of no step; a statement that needs it has it as a hypothesis. -/
def FairTransport (es : Nat → Event) (ss : Nat → State) : Prop :=
  ∀ n, (ss n).core.fsm = .tx →
    ∃ m, n ≤ m ∧ ((ss m).core.fsm ≠ .tx ∨ es m = .instr .txAccept ∨ es m = .instr .ioErr
      ∨ ∃ unit addr qty crc, es m = .instr (.reqRhr unit addr qty crc)
        ∧ offersFrame (reqBytes unit addr qty crc) (ss m).core = true)

/-- Ticks keep coming (R324, R329; log 14). -/
def KeepsTicking (es : Nat → Event) : Prop := ∀ n, ∃ m, n ≤ m ∧ es m = .instr .tick

/-- Two cores show the same result registers of a run, as R328 lists them. -/
def sameResult (k l : CoreState) : Prop :=
  k.done = l.done ∧ k.ok = l.ok ∧ k.err = l.err ∧ k.lastErr = l.lastErr ∧ k.attempts = l.attempts
    ∧ k.excCode = l.excCode ∧ k.respUnit = l.respUnit ∧ k.respFc = l.respFc ∧ k.respBc = l.respBc
    ∧ k.respNreg = l.respNreg ∧ k.txLen = l.txLen
    ∧ (∀ i : Fin 8, i.val < k.txLen.toNat → k.txbuf[i] = l.txbuf[i])
    ∧ ∀ i : Fin 125, i.val < k.respNreg.toNat → k.regs[i] = l.regs[i]

/-- Two runs, from `s₁` to `t₁` and from `s₂` to `t₂`, have the same observable result (R328): the result registers,
together with the sequence of bytes handed to the TX stream during the run. -/
def sameRunResult (s₁ t₁ s₂ t₂ : State) : Prop :=
  sameResult t₁.core t₂.core
    ∧ ∃ sent : List Byte, t₁.port.txStream = s₁.port.txStream ++ sent ∧ t₂.port.txStream = s₂.port.txStream ++ sent

/-- Two cores hold the same request and configuration (R235). -/
def sameRequest (k l : CoreState) : Prop :=
  k.reqUnit = l.reqUnit ∧ k.reqFc = l.reqFc ∧ k.reqAddr = l.reqAddr ∧ k.reqQty = l.reqQty
    ∧ k.respTimeout = l.respTimeout ∧ k.ibTimeout = l.ibTimeout ∧ k.maxRetries = l.maxRetries

end Sys2Proof.Machine
end

