-- ==== Sys2Proof/Certificates/Slice0/Obligations.lean ====
section
/-! DEFINITION. The statements for the provers, from the spec's numbered rules. -/

open Sys2Proof Sys2Proof.Machine

/-! ### The CRC engine and the host CRC port (40_crc.md) -/

/-- R140: `crc_step` is the exclusive-or of the byte into the low bits and eight conditional shifts. -/
def Obligations.CrcStepIsEightShifts : Prop :=
  ∀ (c : Word) (b : Byte),
    let sh : Word → Word := fun x => if x &&& 1 = 1 then (x >>> 1) ^^^ 0xA001 else x >>> 1
    crcStep c b = sh (sh (sh (sh (sh (sh (sh (sh (c ^^^ b.setWidth 16))))))))

/-- R143: CRC_INIT in every state sets CRC_ACC to 0xFFFF and writes nothing else. -/
def Obligations.CrcInitSetsAccumulator : Prop :=
  ∀ s : State, exec .crcInit s = .next { s with core := { s.core with crcAcc := 0xFFFF } }

/-- R144: CRC_DATA in every state feeds the low byte of the written value and writes nothing else; the high byte does
not matter. -/
def Obligations.CrcDataFeedsLowByte : Prop :=
  ∀ (v : Word) (s : State),
    exec (.crcData v) s = .next { s with core := { s.core with crcAcc := crcStep s.core.crcAcc (v.setWidth 8) } }
      ∧ exec (.crcData v) s = exec (.crcData (v &&& 0x00FF)) s

/-- R145: after CRC_INIT and the bytes of a message, and no other command between, CRC_ACC is the message's CRC; nothing
else changed. -/
def Obligations.CrcPortComputesCrc16 : Prop :=
  ∀ (vs : List Word) (s : State),
    execAll (.crcInit :: vs.map .crcData) s
      = .next { s with core := { s.core with crcAcc := crc16 (vs.map fun v => v.setWidth 8) } }

/-- R142 item 4: a message followed by its CRC, low byte first, has CRC 0. -/
def Obligations.CrcResidueIsZero : Prop :=
  ∀ s : List Byte, crc16 (s ++ [(crc16 s).setWidth 8, (crc16 s >>> 8).setWidth 8]) = 0

/-- R142 item 5, first half: `crc_step` is injective in the byte and a bijection in the CRC. -/
def Obligations.CrcStepIsInjectiveAndBijective : Prop :=
  (∀ c : Word, Function.Injective (crcStep c)) ∧ ∀ b : Byte, Function.Bijective fun c => crcStep c b

/-- R142 item 5, second half, for received frames: a frame whose CRC is right, with one byte before the CRC changed in any
way, is a CrcMismatch, whatever the request. -/
def Obligations.ChangedByteIsCrcMismatch : Prop :=
  ∀ (pre post : List Byte) (b b' lo hi : Byte) (unit fc qty : Word),
    2 ≤ pre.length + 1 + post.length →
    crc16 (pre ++ b :: post) = hi ++ lo →
    b ≠ b' →
    validate (pre ++ b' :: post ++ [lo, hi]) unit fc qty = .error .crcMismatch

/-- R146: every instruction but CRC_INIT, CRC_DATA and RESET neither reads nor writes CRC_ACC: with another value there,
it does the same and leaves that value. -/
def Obligations.CrcAccumulatorIsIndependent : Prop :=
  ∀ (i : Instr) (s t : State) (c : Word),
    i ≠ .crcInit → (∀ v, i ≠ .crcData v) → i ≠ .reset →
    exec i s = .next t →
    t.core.crcAcc = s.core.crcAcc
      ∧ exec i { s with core := { s.core with crcAcc := c } } = .next { t with core := { t.core with crcAcc := c } }

/-! ### The request: validation, the encoder, ENCODE (41_encoder.md) -/

/-- R160: which requests are valid. -/
def Obligations.ValidRequestBounds : Prop :=
  ∀ unit fc addr qty : Word,
    validRequest unit fc addr qty = true
      ↔ 1 ≤ unit.toNat ∧ unit.toNat ≤ 247 ∧ fc = 0x0003 ∧ 1 ≤ qty.toNat ∧ qty.toNat ≤ 125

/-- R163: ENCODE. While BUSY = 1 it is refused: CMD_ERR alone is set. When BUSY = 0 a valid request fills TXBUF with its
frame and completes with success; any other completes with InvalidRequest, TX_LEN = 0, and TXBUF as it was. Every register
not named keeps its value. -/
def Obligations.EncodeCommand : Prop :=
  ∀ s : State,
    exec .encode s = .next { s with core :=
      let k := s.core
      let body : List Byte :=
        [k.reqUnit.setWidth 8, k.reqFc.setWidth 8, (k.reqAddr >>> 8).setWidth 8, k.reqAddr.setWidth 8,
          (k.reqQty >>> 8).setWidth 8, k.reqQty.setWidth 8]
      let c := crc16 body
      let cleared := { k with
        lastErr := .none, attempts := 0, excCode := 0, respUnit := 0, respFc := 0, respBc := 0, respNreg := 0
        done := true, rxCnt := 0 }
      if k.fsm ≠ .idle then { k with cmdErr := true }
      else if 1 ≤ k.reqUnit.toNat ∧ k.reqUnit.toNat ≤ 247 ∧ k.reqFc = 0x0003 ∧ 1 ≤ k.reqQty.toNat ∧ k.reqQty.toNat ≤ 125
      then { cleared with
        ok := true, err := .none, txLen := 8
        txbuf := #v[k.reqUnit.setWidth 8, k.reqFc.setWidth 8, (k.reqAddr >>> 8).setWidth 8, k.reqAddr.setWidth 8,
          (k.reqQty >>> 8).setWidth 8, k.reqQty.setWidth 8, c.setWidth 8, (c >>> 8).setWidth 8] }
      else { cleared with ok := false, err := .invalidRequest, txLen := 0 } }

/-! ### The decoder (42_decoder.md) -/

/-- R189: `validate` is the six checks in their order, in the numbers of the rule. -/
def Obligations.ValidateIsSixChecksInOrder : Prop :=
  ∀ (f : List Byte) (unit fc qty : Word),
    let n := f.length
    let at' : Nat → Nat := fun i => (f.getD i 0).toNat
    validate f unit fc qty =
      if n < 4 then .error .frameTooShort
      else if (crc16 (f.take (n - 2))).toNat ≠ at' (n - 2) + 256 * at' (n - 1) then .error .crcMismatch
      else if 128 ≤ at' 1 then
        if n = 5 then .deviceException (f.getD 2 0) else .error .malformedResponse
      else if at' 0 ≠ unit.toNat % 256 then .error .unitIdMismatch
      else if at' 1 ≠ fc.toNat % 256 then .error .malformedResponse
      else if n ≠ 5 + 2 * qty.toNat ∨ at' 2 ≠ 2 * qty.toNat then .error .malformedResponse
      else .ok ((List.range qty.toNat).map fun i => BitVec.ofNat 16 (at' (3 + 2 * i) * 256 + at' (4 + 2 * i)))

/-- R102 with R189: a response laid out as R102 says, for a valid quantity, is accepted with exactly its
register values. -/
def Obligations.WellFormedResponseIsAccepted : Prop :=
  ∀ (unit qty : Word) (regs : List Word) (crc : Word),
    1 ≤ qty.toNat → qty.toNat ≤ 125 → regs.length = qty.toNat →
    crc = crc16 ([unit.setWidth 8, 0x03, BitVec.ofNat 8 (2 * qty.toNat)] ++ regs.flatMap bigEndian) →
    validate (rspBytes (unit.setWidth 8) (BitVec.ofNat 8 (2 * qty.toNat)) regs crc) unit 0x0003 qty = .ok regs

/-- R182: the first byte of a response. -/
def Obligations.RxByteInWait : Prop :=
  ∀ (b : Byte) (s : State), s.core.fsm = .wait →
    exec (.rxByte b) s = .next { s with core :=
      { s.core with rxbuf := s.core.rxbuf.set 0 b, rxCnt := 1, ibTimer := 0, fsm := .recv } }

/-- R183: a further byte is stored at rx_cnt; the one that makes rx_cnt equal to exp_len ends the frame in the same step. -/
def Obligations.RxByteInRecv : Prop :=
  ∀ (b : Byte) (s : State) (h : s.core.rxCnt.toNat < 255), s.core.fsm = .recv →
    exec (.rxByte b) s = .next { s with core :=
      let k := { s.core with rxbuf := s.core.rxbuf.set s.core.rxCnt.toNat b h, rxCnt := s.core.rxCnt + 1, ibTimer := 0 }
      if s.core.rxCnt.toNat + 1 = s.core.expLen.toNat then frameEnd k else k }

/-- R197: a frame that validates writes the response registers and REGS below the quantity, and completes with
success; everything else keeps its value. -/
def Obligations.FrameEndWritesResponse : Prop :=
  ∀ (k : CoreState) (regs : List Word),
    validate (k.rxbuf.toList.take k.rxCnt.toNat) k.reqUnit k.reqFc k.reqQty = .ok regs → k.reqQty.toNat ≤ 125 →
    ∃ v : Vector Word 125,
      (∀ i : Fin 125, v[i] = if i.val < k.reqQty.toNat then regs.getD i 0 else k.regs[i]) ∧
      frameEnd k = { k with
        respUnit := k.rxbuf[0], respFc := k.rxbuf[1], respBc := k.rxbuf[2], regs := v
        respNreg := BitVec.ofNat 7 k.reqQty.toNat
        err := .none, ok := true, done := true, rxCnt := 0, fsm := .idle }

/-- R188, R198, R279: an exception response records unit, function and code and completes, with LAST_ERR, REGS, RESP_BC
and RESP_NREG as they were; every other verdict that is no response is raised. -/
def Obligations.FrameEndReportsFailure : Prop :=
  (∀ (k : CoreState) (code : Byte),
      validate (k.rxbuf.toList.take k.rxCnt.toNat) k.reqUnit k.reqFc k.reqQty = .deviceException code →
      frameEnd k = { k with
        respUnit := k.rxbuf[0], respFc := k.rxbuf[1], excCode := code
        err := .deviceException, ok := false, done := true, rxCnt := 0, fsm := .idle })
    ∧ ∀ (k : CoreState) (e : ErrKind),
      validate (k.rxbuf.toList.take k.rxCnt.toNat) k.reqUnit k.reqFc k.reqQty = .error e →
      frameEnd k = raise e k
        ∧ (e = .frameTooShort ∨ e = .crcMismatch ∨ e = .unitIdMismatch ∨ e = .malformedResponse)

/-- R227, R277, R278: a retryable error discards the frame and stands in LAST_ERR; DECODE ends with it; EXECUTE starts
the next attempt while a retry is left and ends with TransactionFailed when none is. -/
def Obligations.RetryableErrorFailsAttempt : Prop :=
  ∀ (e : ErrKind) (k : CoreState),
    e = .timeout ∨ e = .frameTooShort ∨ e = .crcMismatch ∨ e = .unitIdMismatch ∨ e = .malformedResponse →
    raise e k =
      if k.mode = .decode then
        { k with lastErr := e, err := e, ok := false, done := true, rxCnt := 0, fsm := .idle }
      else if k.attempts.toNat ≤ k.maxRetries.toNat then
        { k with lastErr := e, attempts := BitVec.ofNat 9 (k.attempts.toNat + 1), rxCnt := 0, txIdx := 0, fsm := .tx }
      else { k with lastErr := e, err := .transactionFailed, ok := false, done := true, rxCnt := 0, fsm := .idle }

/-- R279: a non-retryable error completes with its own code in either mode; LAST_ERR is not written. -/
def Obligations.NonRetryableErrorCompletes : Prop :=
  ∀ (e : ErrKind) (k : CoreState), e = .invalidRequest ∨ e = .deviceException ∨ e = .ioError →
    raise e k = { k with err := e, ok := false, done := true, rxCnt := 0, fsm := .idle }

/-- R181: DECODE. While BUSY = 1 it is refused: CMD_ERR alone is set. When BUSY = 0 a valid request opens the response window; any other completes with InvalidRequest
and leaves mode, exp_len, the timers and TX_LEN. -/
def Obligations.DecodeCommand : Prop :=
  ∀ s : State,
    exec .decode s = .next { s with core :=
      let k := s.core
      let cleared := { k with
        lastErr := .none, attempts := 0, excCode := 0, respUnit := 0, respFc := 0, respBc := 0, respNreg := 0
        ok := false, rxCnt := 0 }
      if k.fsm ≠ .idle then { k with cmdErr := true }
      else if 1 ≤ k.reqUnit.toNat ∧ k.reqUnit.toNat ≤ 247 ∧ k.reqFc = 0x0003 ∧ 1 ≤ k.reqQty.toNat ∧ k.reqQty.toNat ≤ 125
      then { cleared with
        done := false, err := .none, mode := .decode, expLen := BitVec.ofNat 8 (5 + 2 * k.reqQty.toNat)
        respTimer := 0, ibTimer := 0, fsm := .wait }
      else { cleared with done := true, err := .invalidRequest } }

/-! ### The transaction cycle (43_transaction.md) -/

/-- R221, R222, R239: EXECUTE. While BUSY = 1 it is refused: CMD_ERR alone is set. When BUSY = 0 a valid request is encoded and its first attempt starts; any other
completes with InvalidRequest and sends nothing. -/
def Obligations.ExecuteCommand : Prop :=
  ∀ s : State,
    exec .execute s = .next { s with core :=
      let k := s.core
      let cleared := { k with
        lastErr := .none, excCode := 0, respUnit := 0, respFc := 0, respBc := 0, respNreg := 0
        ok := false, rxCnt := 0 }
      if k.fsm ≠ .idle then { k with cmdErr := true }
      else if 1 ≤ k.reqUnit.toNat ∧ k.reqUnit.toNat ≤ 247 ∧ k.reqFc = 0x0003 ∧ 1 ≤ k.reqQty.toNat ∧ k.reqQty.toNat ≤ 125
      then { cleared with
        done := false, err := .none, attempts := 1, mode := .execute
        txbuf := encodeAdu k.reqUnit k.reqFc k.reqAddr k.reqQty, txLen := 8
        expLen := BitVec.ofNat 8 (5 + 2 * k.reqQty.toNat), txIdx := 0, fsm := .tx }
      else { cleared with done := true, err := .invalidRequest, attempts := 0, txLen := 0 } }

/-- R101, with R221 and R223: an accepted EXECUTE followed by the transport taking the whole frame (as the one instruction
REQ_RHR, the model's choice: log 4) puts exactly the eight
bytes of R101 on the TX stream, in order, and opens the response window. -/
def Obligations.RequestGoesOutAsLaidOut : Prop :=
  ∀ s : State, s.core.fsm = .idle →
    1 ≤ s.core.reqUnit.toNat → s.core.reqUnit.toNat ≤ 247 → s.core.reqFc = 0x0003 →
    1 ≤ s.core.reqQty.toNat → s.core.reqQty.toNat ≤ 125 →
    let k := s.core
    let body : List Byte :=
      [k.reqUnit.setWidth 8, 0x03, (k.reqAddr >>> 8).setWidth 8, k.reqAddr.setWidth 8, 0x00, k.reqQty.setWidth 8]
    let c := crc16 body
    ∃ t : State,
      execAll [.execute, .reqRhr (k.reqUnit.setWidth 8) k.reqAddr k.reqQty c] s = .next t
        ∧ t.port.txStream = s.port.txStream ++ body ++ [c.setWidth 8, (c >>> 8).setWidth 8]
        ∧ t.core.fsm = .wait ∧ t.core.txIdx = 8 ∧ t.core.respTimer = 0 ∧ t.core.ibTimer = 0 ∧ t.core.attempts = 1

/-- REQ_RHR, log 4 (the model's choice: the opcode table's frame is a transfer of the whole frame): where the core offers
the frame and has handed over nothing of it, the eight bytes are taken in order and the response window opens (R73, R223);
where it does not, nothing can be taken and nothing changes (R240). -/
def Obligations.WholeRequestFrame : Prop :=
  ∀ (unit : Byte) (addr qty crc : Word) (s : State),
    exec (.reqRhr unit addr qty crc) s = .next
      (if s.core.fsm = .tx ∧ s.core.txIdx = 0 ∧ s.core.txbuf.toList = reqBytes unit addr qty crc then
        { core := { s.core with txIdx := 8, respTimer := 0, ibTimer := 0, fsm := .wait }
          port := { s.port with txStream := s.port.txStream ++ reqBytes unit addr qty crc } }
      else s)

/-- R223, R73: TxAccept in TX hands over TXBUF[tx_idx]; the acceptance of TXBUF[7] opens the response window. -/
def Obligations.TxAcceptInTx : Prop :=
  ∀ (s : State) (h : s.core.txIdx.toNat < 8), s.core.fsm = .tx →
    exec .txAccept s = .next
      { core :=
          if s.core.txIdx.toNat < 7 then { s.core with txIdx := BitVec.ofNat 4 (s.core.txIdx.toNat + 1) }
          else { s.core with txIdx := 8, respTimer := 0, ibTimer := 0, fsm := .wait }
        port := { s.port with txStream := s.port.txStream ++ [s.core.txbuf[s.core.txIdx.toNat]] } }

/-- R224: Tick in WAIT counts, and expires the window when the count reaches RESP_TIMEOUT. -/
def Obligations.TickInWait : Prop :=
  ∀ s : State, s.core.fsm = .wait → s.core.respTimer.toNat < 65535 →
    exec .tick s = .next { s with core :=
      let k := { s.core with respTimer := BitVec.ofNat 16 (s.core.respTimer.toNat + 1) }
      if s.core.respTimeout.toNat ≤ s.core.respTimer.toNat + 1 then raise .timeout k else k }

/-- R225: Tick in RECV counts both timers; the inter-byte timer is tested first and ends the frame, else the response
timer may fail the attempt. -/
def Obligations.TickInRecv : Prop :=
  ∀ s : State, s.core.fsm = .recv → s.core.respTimer.toNat < 65535 → s.core.ibTimer.toNat < 65535 →
    exec .tick s = .next { s with core :=
      let k := { s.core with
        respTimer := BitVec.ofNat 16 (s.core.respTimer.toNat + 1)
        ibTimer := BitVec.ofNat 16 (s.core.ibTimer.toNat + 1) }
      if s.core.ibTimeout.toNat ≤ s.core.ibTimer.toNat + 1 then frameEnd k
      else if s.core.respTimeout.toNat ≤ s.core.respTimer.toNat + 1 then raise .timeout k
      else k }

/-- R187, R226, R240: a byte in IDLE or TX is dropped, a Tick in IDLE or TX is not counted, a TxAccept outside TX takes
nothing: no state changes. -/
def Obligations.EventsOutOfPlaceChangeNothing : Prop :=
  (∀ (b : Byte) (s : State), s.core.fsm = .idle ∨ s.core.fsm = .tx → exec (.rxByte b) s = .next s)
    ∧ (∀ s : State, s.core.fsm = .idle ∨ s.core.fsm = .tx → exec .tick s = .next s)
    ∧ ∀ s : State, s.core.fsm ≠ .tx → exec .txAccept s = .next s

/-- R230: IoError completes what is in progress with ERR = IoError, and does nothing in IDLE. -/
def Obligations.IoErrorEndsTransaction : Prop :=
  ∀ s : State,
    exec .ioErr s = .next { s with core :=
      if s.core.fsm = .idle then s.core
      else { s.core with err := .ioError, ok := false, done := true, rxCnt := 0, fsm := .idle } }

/-- R231, R232: CLEAR, when BUSY = 0, clears DONE, OK and CMD_ERR and nothing else; while BUSY = 1 it is refused. NOP changes
nothing in any state. -/
def Obligations.ClearAndNop : Prop :=
  (∀ s : State,
      exec .clear s = .next { s with core :=
        if s.core.fsm = .idle then { s.core with done := false, ok := false, cmdErr := false }
        else { s.core with cmdErr := true } })
    ∧ ∀ s : State, exec .nop s = .next s

/-- R233: a command while BUSY = 1, or a reserved command in any state, sets CMD_ERR and changes nothing else. -/
def Obligations.RefusedCommandSetsCmdErr : Prop :=
  (∀ (i : Instr) (s : State), i = .encode ∨ i = .decode ∨ i = .execute ∨ i = .clear → s.core.fsm ≠ .idle →
      exec i s = .next { s with core := { s.core with cmdErr := true } })
    ∧ ∀ (v : Word) (s : State) (xs : List Input), 0x0006 ≤ v.toNat →
      step (present (.cycle { Cycle.quiet with host := .write 0x00 v })
          { s with port := { s.port with inputs := xs, events := [] } })
        = .next { core := { s.core with cmdErr := true }, port := { s.port with inputs := xs, events := [] } }

/-- R293: CMD_ERR is sticky. Among the instructions a refused command alone sets it, and then changes nothing else; CLEAR
accepted in IDLE and RESET alone clear it. -/
def Obligations.CmdErrIsSticky : Prop :=
  ∀ (i : Instr) (s t : State), exec i s = .next t →
    t.core.cmdErr = s.core.cmdErr
      ∨ (t = { s with core := { s.core with cmdErr := true } } ∧ s.core.fsm ≠ .idle
        ∧ (i = .encode ∨ i = .decode ∨ i = .execute ∨ i = .clear))
      ∨ (t.core.cmdErr = false ∧ (i = .reset ∨ (i = .clear ∧ s.core.fsm = .idle)))

/-- R228: a transport that takes every byte and never answers: exactly MAX_RETRIES + 1 sends of the frame, then
TransactionFailed with LAST_ERR = Timeout and ATTEMPTS = MAX_RETRIES + 1. -/
def Obligations.SilentTransportFailsAfterAllRetries : Prop :=
  ∀ s : State, s.core.fsm = .idle →
    validRequest s.core.reqUnit s.core.reqFc s.core.reqAddr s.core.reqQty = true →
    let attempt : List Instr :=
      List.replicate 8 .txAccept ++ List.replicate (max 1 s.core.respTimeout.toNat) .tick
    let sends := s.core.maxRetries.toNat + 1
    let frame := (encodeAdu s.core.reqUnit s.core.reqFc s.core.reqAddr s.core.reqQty).toList
    ∃ t : State,
      execAll (.execute :: (List.replicate sends attempt).flatten) s = .next t
        ∧ t.core.fsm = .idle ∧ t.core.done = true ∧ t.core.ok = false ∧ t.core.err = .transactionFailed
        ∧ t.core.lastErr = .timeout ∧ t.core.attempts.toNat = sends
        ∧ t.port.txStream = s.port.txStream ++ (List.replicate sends frame).flatten
        ∧ t.core.regs = s.core.regs

/-! ### Whole frames on the RX stream (30_encoding.md, 42_decoder.md; log 3) -/

/-- R102, R182, R183, R189, R197: in WAIT, a success response for the request registers (as the one instruction RSP_RHR, the
model's choice: log 3) fills REGS with its register values and completes with success. RXBUF holds the frame, and above it
what it held; every register not named keeps its value. -/
def Obligations.SuccessResponseCompletes : Prop :=
  ∀ (regs : List Word) (crc : Word) (s : State),
    s.core.fsm = .wait → s.core.reqFc = 0x0003 →
    1 ≤ s.core.reqQty.toNat → s.core.reqQty.toNat ≤ 125 → s.core.expLen.toNat = 5 + 2 * s.core.reqQty.toNat →
    regs.length = s.core.reqQty.toNat →
    let unit : Byte := s.core.reqUnit.setWidth 8
    let count : Byte := BitVec.ofNat 8 (2 * s.core.reqQty.toNat)
    let frame : List Byte :=
      [unit, 0x03, count] ++ regs.flatMap bigEndian ++ [crc.setWidth 8, (crc >>> 8).setWidth 8]
    crc = crc16 ([unit, 0x03, count] ++ regs.flatMap bigEndian) →
    ∃ (rx : Vector Byte 255) (v : Vector Word 125),
      (∀ i : Fin 255, rx[i] = if i.val < frame.length then frame.getD i 0 else s.core.rxbuf[i]) ∧
      (∀ i : Fin 125, v[i] = if i.val < regs.length then regs.getD i 0 else s.core.regs[i]) ∧
      exec (.rspRhr unit count regs crc) s = .next { s with core := { s.core with
        rxbuf := rx, ibTimer := 0, respUnit := unit, respFc := 0x03, respBc := count, regs := v
        respNreg := BitVec.ofNat 7 regs.length
        err := .none, ok := true, done := true, rxCnt := 0, fsm := .idle } }

/-- R103, R182, R183, R192, R198: in WAIT, an exception response (as the one instruction RSP_EXC with the silence after it,
the model's choice: log 3), if the silence ends it before the response window closes, completes with DeviceException, its
code in EXC_CODE, whatever its unit; LAST_ERR and ATTEMPTS keep their values. RXBUF holds the frame, and above it what it
held. -/
def Obligations.ExceptionResponseCompletes : Prop :=
  ∀ (unit : Byte) (func : BitVec 7) (code : Byte) (crc : Word) (s : State),
    s.core.fsm = .wait → 5 < s.core.expLen.toNat →
    crc = crc16 [unit, 1#1 ++ func, code] →
    (s.core.ibTimeout.toNat ≤ 1
      ∨ s.core.respTimer.toNat + (s.core.ibTimeout.toNat - 1) < s.core.respTimeout.toNat) →
    let n : Word := BitVec.ofNat 16 (max 1 s.core.ibTimeout.toNat)
    let frame : List Byte := [unit, 1#1 ++ func, code, crc.setWidth 8, (crc >>> 8).setWidth 8]
    ∃ rx : Vector Byte 255,
      (∀ i : Fin 255, rx[i] = if i.val < 5 then frame.getD i 0 else s.core.rxbuf[i]) ∧
      exec (.rspExc unit func code crc) s = .next { s with core := { s.core with
        rxbuf := rx, respTimer := s.core.respTimer + n, ibTimer := n
        respUnit := unit, respFc := 1#1 ++ func, excCode := code
        err := .deviceException, ok := false, done := true, rxCnt := 0, fsm := .idle } }

/-- R187, R226: a whole frame that arrives in IDLE or TX is dropped. -/
def Obligations.FramesOutsideReceiveAreDropped : Prop :=
  ∀ (i : Instr) (s : State),
    (∃ u n rs c, i = .rspRhr u n rs c) ∨ (∃ u f e c, i = .rspExc u f e c) →
    s.core.fsm = .idle ∨ s.core.fsm = .tx → exec i s = .next s

/-- Log 3 (the model's choice): a frame instruction is its bytes as RXBYTE, then max(1, IB_TIMEOUT) TICKs; and so is a step
that presents bytes on the RX stream that make no frame of the table. -/
def Obligations.FrameIsItsBytesThenSilence : Prop :=
  (∀ (i : Instr) (s : State),
      (∃ u n rs c, i = .rspRhr u n rs c) ∨ (∃ u f e c, i = .rspExc u f e c) →
      exec i s = execAll
        ((encode i).2.map .rxByte ++ List.replicate (max 1 s.core.ibTimeout.toNat) .tick) s)
    ∧ ∀ (f : List Byte) (e : DecodeError) (s : State), decode .rxWire f = .error e →
      step (present (.rxFrame f) s) = execAll
        (f.map .rxByte ++ List.replicate (max 1 s.core.ibTimeout.toNat) .tick)
        { s with port := { s.port with events := [] } }

/-! ### Reset (70_reset_and_hazards.md) and the host's view (10_state.md, 20_memory.md) -/

/-- R310, R311, R54: RESET puts every piece of the core's state to its reset value, in every state. -/
def Obligations.ResetWritesResetValues : Prop :=
  ∀ s : State, exec .reset s = .next { s with core :=
    { done := false, ok := false, cmdErr := false, err := .none, lastErr := .none, attempts := 0, excCode := 0
      respTimeout := 0, ibTimeout := 0, maxRetries := 0, reqUnit := 0, reqFc := 0, reqAddr := 0, reqQty := 0
      respUnit := 0, respFc := 0, respBc := 0, respNreg := 0, txLen := 0, crcAcc := 0xFFFF
      regs := Vector.replicate 125 0, txbuf := Vector.replicate 8 0, rxbuf := Vector.replicate 255 0
      rxCnt := 0, fsm := .idle, txIdx := 0, expLen := 0, respTimer := 0, ibTimer := 0, mode := .execute } }

/-- R311, R313, R20: after RESET the host reads 0 at every address but CRC_ACC, which reads 0xFFFF, and every output is
low. -/
def Obligations.HostReadsZeroAfterReset : Prop :=
  ∀ (s t : State) (a : Byte), exec .reset s = .next t →
    hostReadValue a t.core = (if a = 0x12 then 0xFFFF else 0)
      ∧ txValid t.core = false ∧ txData t.core = 0 ∧ busy t.core = false ∧ t.core.done = false

/-- R22: the bits of STATUS. R56: the outputs, in every state: `tx_valid` is 1 exactly in TX, `tx_data` is TXBUF[tx_idx] there
and 0x00 elsewhere, `busy` and `done` are the bits of STATUS. -/
def Obligations.StatusLayout : Prop :=
  ∀ k : CoreState,
    let v := hostReadValue 0x01 k
    v.getLsbD 0 = decide (k.fsm ≠ .idle) ∧ v.getLsbD 1 = k.done ∧ v.getLsbD 2 = k.ok ∧ v.getLsbD 3 = k.cmdErr
      ∧ v.extractLsb' 4 2 = (match k.fsm with | .idle => 0#2 | .tx => 1#2 | .wait => 2#2 | .recv => 3#2)
      ∧ v.getLsbD 6 = decide (k.mode = .decode) ∧ v.extractLsb' 7 9 = 0
      ∧ txValid k = decide (k.fsm = .tx)
      ∧ (∀ h : k.txIdx.toNat < 8, k.fsm = .tx → txData k = k.txbuf[k.txIdx.toNat])
      ∧ (k.fsm ≠ .tx → txData k = 0x00)
      ∧ busy k = v.getLsbD 0

/-- R72 with R20: what HostRead returns at every address but STATUS: the codes of R270 at ERR and LAST_ERR, each register
zero-extended, the buffers, and 0 at every write-only or reserved address (R21, R42, R43). -/
def Obligations.HostReadMap : Prop :=
  ∀ k : CoreState,
    let code : ErrKind → Word := fun e =>
      match e with
      | .none => 0
      | .invalidRequest => 1
      | .timeout => 2
      | .frameTooShort => 3
      | .crcMismatch => 4
      | .unitIdMismatch => 5
      | .deviceException => 6
      | .transactionFailed => 7
      | .ioError => 8
      | .malformedResponse => 9
    (hostReadValue 0x02 k = code k.err ∧ hostReadValue 0x03 k = code k.lastErr
        ∧ (hostReadValue 0x04 k).toNat = k.attempts.toNat ∧ (hostReadValue 0x05 k).toNat = k.excCode.toNat
        ∧ hostReadValue 0x06 k = k.respTimeout ∧ hostReadValue 0x07 k = k.ibTimeout
        ∧ (hostReadValue 0x08 k).toNat = k.maxRetries.toNat
        ∧ hostReadValue 0x09 k = k.reqUnit ∧ hostReadValue 0x0A k = k.reqFc
        ∧ hostReadValue 0x0B k = k.reqAddr ∧ hostReadValue 0x0C k = k.reqQty
        ∧ (hostReadValue 0x0D k).toNat = k.respUnit.toNat ∧ (hostReadValue 0x0E k).toNat = k.respFc.toNat
        ∧ (hostReadValue 0x0F k).toNat = k.respBc.toNat ∧ (hostReadValue 0x10 k).toNat = k.respNreg.toNat
        ∧ (hostReadValue 0x11 k).toNat = k.txLen.toNat ∧ hostReadValue 0x12 k = k.crcAcc)
      ∧ (∀ i : Fin 125, hostReadValue (BitVec.ofNat 8 (0x80 + i)) k = k.regs[i])
      ∧ (∀ i : Fin 8, (hostReadValue (BitVec.ofNat 8 (0x20 + i)) k).toNat = (k.txbuf[i]).toNat)
      ∧ ∀ a : Byte, a = 0x00 ∨ (0x13 ≤ a.toNat ∧ a.toNat ≤ 0x1F) ∨ (0x28 ≤ a.toNat ∧ a.toNat ≤ 0x7F) ∨ 0xFD ≤ a.toNat →
        hostReadValue a k = 0

/-- R236, R72: a HostRead returns the register map's value and changes nothing in the core. -/
def Obligations.HostReadChangesNoState : Prop :=
  ∀ (a : Byte) (s : State) (xs : List Input),
    step (present (.cycle { Cycle.quiet with host := .read a })
        { s with port := { s.port with inputs := xs, events := [] } })
      = .next { core := s.core
                port := { s.port with inputs := xs, events := [], hRdata := hostReadValue a s.core } }

/-- R72, R29: while BUSY = 0 a write to a request or configuration register is stored: it reads back, MAX_RETRIES with
its low byte only, and every other address reads as before. -/
def Obligations.RegisterWriteReadsBack : Prop :=
  ∀ (a : Byte) (v : Word) (s : State) (xs : List Input),
    s.core.fsm = .idle → 0x06 ≤ a.toNat → a.toNat ≤ 0x0C →
    ∃ k : CoreState,
      step (present (.cycle { Cycle.quiet with host := .write a v })
          { s with port := { s.port with inputs := xs, events := [] } })
        = .next { core := k, port := { s.port with inputs := xs, events := [] } }
        ∧ hostReadValue a k = (if a = 0x08 then v &&& 0x00FF else v)
        ∧ (∀ b : Byte, b ≠ a → hostReadValue b k = hostReadValue b s.core)
        ∧ k.rxbuf = s.core.rxbuf ∧ k.rxCnt = s.core.rxCnt ∧ k.fsm = s.core.fsm ∧ k.txIdx = s.core.txIdx
        ∧ k.expLen = s.core.expLen ∧ k.respTimer = s.core.respTimer ∧ k.ibTimer = s.core.ibTimer
        ∧ k.mode = s.core.mode ∧ k.regs = s.core.regs ∧ k.txbuf = s.core.txbuf

/-- R234: while BUSY = 1 such a write is dropped and sets CMD_ERR; nothing else changes. -/
def Obligations.RegisterWriteWhileBusyIsRefused : Prop :=
  ∀ (a : Byte) (v : Word) (s : State) (xs : List Input),
    s.core.fsm ≠ .idle → 0x06 ≤ a.toNat → a.toNat ≤ 0x0C →
    step (present (.cycle { Cycle.quiet with host := .write a v })
        { s with port := { s.port with inputs := xs, events := [] } })
      = .next { core := { s.core with cmdErr := true }, port := { s.port with inputs := xs, events := [] } }

/-- R43: a write to a read-only or reserved address changes nothing. -/
def Obligations.OtherWritesChangeNothing : Prop :=
  ∀ (a : Byte) (v : Word) (s : State) (xs : List Input),
    (0x01 ≤ a.toNat ∧ a.toNat ≤ 0x05) ∨ (0x0D ≤ a.toNat ∧ a.toNat ≤ 0x12) ∨ 0x14 ≤ a.toNat →
    step (present (.cycle { Cycle.quiet with host := .write a v })
        { s with port := { s.port with inputs := xs, events := [] } })
      = .next { s with port := { s.port with inputs := xs, events := [] } }

/-! ### The step and the encodings (30_encoding.md, rule R322) -/

/-- A step runs the decoded instruction. When what the ports present next is the encoding of an instruction, or decodes
to one on the host port or a stream, the step is that instruction's meaning, with the input taken. A strobe vector of one
event is that event; of one of several, a clock cycle, the first event runs and the rest stay pending (a byte that the
transport takes in a cycle whose IoError ends the transaction is on the stream: log 2); an event fed as such runs; a step with events pending runs the first of them before it
looks at the next input (log 1). -/
def Obligations.StepRunsTheDecodedInstruction : Prop :=
  (∀ (i : Instr) (s : State),
      step (present (portInput (encode i).1 (encode i).2) s) = exec i { s with port := { s.port with events := [] } })
    ∧ (∀ (p : Port) (bs : List Byte) (i : Instr) (s : State), p ≠ .strobe → decode p bs = .ok i →
      step (present (portInput p bs) s) = exec i { s with port := { s.port with events := [] } })
    ∧ (∀ (bs : List Byte) (i : Instr) (s : State), decode .strobe bs = .ok i →
      (portInput .strobe bs = .event (.instr i)
          ∧ step (present (portInput .strobe bs) s) = exec i { s with port := { s.port with events := [] } })
        ∨ ∃ (c : Cycle) (es : List Event),
          portInput .strobe bs = .cycle c ∧ cycleEvents s.core c = .instr i :: es
            ∧ step (present (.cycle c) s)
              = exec i { s with port := { s.port with
                  events := es
                  txStream := s.port.txStream ++
                    (if c.rst = false ∧ c.ioErr = true ∧ c.txReady = true ∧ s.core.fsm = .tx then [txData s.core]
                    else []) } })
    ∧ (∀ (i : Instr) (s : State),
      step (present (.event (.instr i)) s) = exec i { s with port := { s.port with events := [] } })
    ∧ ∀ (i : Instr) (es : List Event) (s : State),
      step { s with port := { s.port with events := .instr i :: es } }
        = exec i { s with port := { s.port with events := es } }

/-- R322: the events of one clock cycle, in their order: Reset alone; else IoError, RxByte, Tick, TxAccept, the host
access. TxAccept is among them exactly where tx_fire = tx_valid & tx_ready is 1 (R111), with the tx_valid of the start of
the cycle, which is 1 exactly in TX (R56). -/
def Obligations.CycleEventsInFixedOrder : Prop :=
  ∀ (k : CoreState) (c : Cycle),
    cycleEvents k c =
      if c.rst then [.instr .reset]
      else
        (if c.ioErr then [.instr .ioErr] else [])
          ++ (if c.rxValid then [.instr (.rxByte c.rxData)] else [])
          ++ (if c.tick then [.instr .tick] else [])
          ++ (if c.txReady ∧ k.fsm = .tx then [.instr .txAccept] else [])
          ++ hostEvents c.host

/-- Some words written out from R101 to R103, R108, R110 and R111 decode to the instructions they stand for. -/
def Obligations.SampleWordsDecode : Prop :=
  decode .hostWrite [0x00, 0x00, 0x03] = .ok .execute
    ∧ decode .hostWrite [0x13, 0xAB, 0x01] = .ok (.crcData 0xAB01)
    ∧ decode .hostWrite [0x00, 0x00, 0x06] = .error .reservedCommand
    ∧ decode .strobe [0b10000, 0x00] = .ok .reset
    ∧ decode .strobe [0b00100, 0x5A] = .ok (.rxByte 0x5A)
    ∧ decode .txWire [0x01, 0x03, 0x03, 0x00, 0x00, 0x06, 0xC5, 0x8C] = .ok (.reqRhr 0x01 0x0300 0x0006 0x8CC5)
    ∧ decode .rxWire [0x01, 0x03, 0x02, 0x12, 0x34, 0xB5, 0x33] = .ok (.rspRhr 0x01 0x02 [0x1234] 0x33B5)
    ∧ decode .rxWire [0x01, 0x83, 0x02, 0xC0, 0xF1] = .ok (.rspExc 0x01 0x03 0x02 0xF1C0)

/-- Decoding an encoded instruction gives it back, every operand at every value, well-formed or not. -/
def Obligations.DecodeAfterEncode : Prop :=
  ∀ i : Instr, decode (encode i).1 (encode i).2 = .ok i

/-- On the host port and the two streams each encoding has one meaning: what decodes is the encoding of what it decodes
to. -/
def Obligations.EncodeAfterDecode : Prop :=
  ∀ (p : Port) (bs : List Byte) (i : Instr),
    p ≠ .strobe → decode p bs = .ok i → encode i = (p, bs)

/-! ### The machine as a whole -/

/-- R53, R54: the reset state meets the invariants. -/
def Obligations.ResetMeetsInvariant : Prop := State.reset.Inv

/-- R53: every step from a state that meets the invariants gives one that does, whatever the ports present. -/
def Obligations.StepKeepsInvariant : Prop :=
  ∀ s t : State, s.Inv → step s = .next t → t.Inv

/-- R8, R238: the machine never stops: every instruction and every step has a next state. -/
def Obligations.MachineIsTotal : Prop :=
  (∀ (i : Instr) (s : State), ∃ t, exec i s = .next t) ∧ ∀ s : State, ∃ t, step s = .next t

/-- R40, R280: REGS is changed only by RESET and by a completion with success. -/
def Obligations.RegsChangeOnlyOnSuccess : Prop :=
  ∀ (i : Instr) (s t : State), exec i s = .next t → i ≠ .reset → t.core.regs ≠ s.core.regs →
    t.core.fsm = .idle ∧ t.core.done = true ∧ t.core.ok = true ∧ t.core.err = .none

/-- R55: no instruction but RESET writes a request or configuration register. -/
def Obligations.RequestAndConfigurationKept : Prop :=
  ∀ (i : Instr) (s t : State), exec i s = .next t → i ≠ .reset → sameRequest t.core s.core

/-- R41: TXBUF and TX_LEN change only when ENCODE or EXECUTE is accepted, or by RESET; in particular never while BUSY. -/
def Obligations.TxbufWrittenOnlyAtAcceptance : Prop :=
  ∀ (i : Instr) (s t : State), exec i s = .next t → i ≠ .reset →
    (i ≠ .encode ∧ i ≠ .execute) ∨ s.core.fsm ≠ .idle →
    t.core.txbuf = s.core.txbuf ∧ t.core.txLen = s.core.txLen

/-- R22, R276, R312: an operation in progress ends only through a completion, which sets DONE, or through RESET. -/
def Obligations.BusyEndsOnlyByCompletion : Prop :=
  ∀ (i : Instr) (s t : State), exec i s = .next t → i ≠ .reset → s.core.fsm ≠ .idle → t.core.fsm = .idle →
    t.core.done = true ∧ t.core.rxCnt = 0 ∧ (t.core.ok = true ↔ t.core.err = .none)

/-- R85, R187, R226, R230, R240: in IDLE no stream event, no Tick, no IoError and no frame changes anything: a result
stays until the host's next command. -/
def Obligations.IdleIsQuiet : Prop :=
  ∀ (i : Instr) (s : State), s.core.fsm = .idle →
    i ≠ .encode → i ≠ .decode → i ≠ .execute → i ≠ .crcInit → i ≠ .clear → (∀ v, i ≠ .crcData v) → i ≠ .reset →
    exec i s = .next s

/-- R324: once the response window is open, max(1, RESP_TIMEOUT) Ticks close it, whatever bytes arrive between them. -/
def Obligations.ResponseWindowIsBounded : Prop :=
  ∀ (is : List Instr) (s : State), s.Inv → s.core.fsm = .wait ∨ s.core.fsm = .recv →
    (∀ i ∈ is, i = .tick ∨ ∃ b, i = .rxByte b) →
    max 1 s.core.respTimeout.toNat ≤ is.count .tick →
    ∃ t : State, execAll is s = .next t ∧ (t.core.fsm = .idle ∨ t.core.fsm = .tx)

/-- R328: the state that ends a run has BUSY = 0, fsm = IDLE and DONE = 1, and a run has one end: no longer sequence of the
same events ends it again. -/
def Obligations.RunEndIsFinal : Prop :=
  ∀ (e : Event) (es : List Event) (s t : State), s.Inv → RunEnds e es s t →
    t.core.fsm = .idle ∧ busy t.core = false ∧ t.core.done = true
      ∧ ∀ (es' : List Event) (t' : State), es <+: es' → RunEnds e es' s t' → es' = es ∧ t' = t

/-- R324 with R320 (log 14): in an endless run in which Ticks keep coming and the transport takes what it is offered or
raises io_err, every operation in progress comes to IDLE, and unless it is reset it has completed then. -/
def Obligations.EveryCommandCompletes : Prop :=
  ∀ (es : Nat → Event) (ss : Nat → State),
    IsRun es ss → (ss 0).Inv → FairTransport es ss → KeepsTicking es →
    ∀ n, (ss n).core.fsm ≠ .idle →
      ∃ m, n < m ∧ (ss m).core.fsm = .idle
        ∧ ((∀ j, n ≤ j → j < m → es j ≠ .instr .reset) → (ss m).core.done = true)

/-- R235 with R328: two EXECUTEs accepted with the same request and configuration, given the same events after them (host
reads and writes among them), have the same observable result, the bytes handed to the TX stream included, whatever the
machine did before. -/
def Obligations.ExecuteForgetsThePast : Prop :=
  ∀ (es : List Event) (s₁ s₂ t₁ t₂ : State),
    s₁.core.fsm = .idle → s₂.core.fsm = .idle → sameRequest s₁.core s₂.core →
    runAll (.instr .execute :: es) s₁ = .next t₁ → runAll (.instr .execute :: es) s₂ = .next t₂ →
    sameRunResult s₁ t₁ s₂ t₂ ∧ t₁.core.fsm = t₂.core.fsm
end

