-- ==== Sys2Proof/Laws/Bytes.lean ====
section
/-! SUPPORT. Splitting and joining bytes, and the CRC's fold. -/

namespace Sys2Proof.Machine

theorem joinBytes_toNat (hi lo : Byte) : (joinBytes hi lo).toNat = hi.toNat * 256 + lo.toNat := by
  unfold joinBytes
  rw [BitVec.toNat_append, ← Nat.shiftLeft_add_eq_or_of_lt lo.isLt, Nat.shiftLeft_eq]

theorem loByte_toNat (w : Word) : (loByte w).toNat = w.toNat % 256 := by
  simp [loByte, BitVec.extractLsb'_toNat]

theorem hiByte_toNat (w : Word) : (hiByte w).toNat = w.toNat / 256 := by
  have := w.isLt
  simp only [hiByte, BitVec.extractLsb'_toNat, Nat.shiftRight_eq_div_pow]; omega

theorem loByte_eq_setWidth (w : Word) : loByte w = w.setWidth 8 := rfl

theorem hiByte_eq_shift (w : Word) : hiByte w = (w >>> 8).setWidth 8 := by
  apply BitVec.eq_of_toNat_eq
  have := w.isLt
  rw [hiByte_toNat, BitVec.toNat_setWidth, BitVec.toNat_ushiftRight, Nat.shiftRight_eq_div_pow]; omega

@[simp] theorem joinBytes_hi_lo (w : Word) : joinBytes (hiByte w) (loByte w) = w := by
  apply BitVec.eq_of_toNat_eq
  rw [joinBytes_toNat, hiByte_toNat, loByte_toNat]; omega

@[simp] theorem hiByte_joinBytes (hi lo : Byte) : hiByte (joinBytes hi lo) = hi := by
  apply BitVec.eq_of_toNat_eq
  have := lo.isLt
  rw [hiByte_toNat, joinBytes_toNat]; omega

@[simp] theorem loByte_joinBytes (hi lo : Byte) : loByte (joinBytes hi lo) = lo := by
  apply BitVec.eq_of_toNat_eq
  have := lo.isLt
  rw [loByte_toNat, joinBytes_toNat]; omega

@[simp] theorem bigEndian_length (w : Word) : (bigEndian w).length = 2 := rfl

@[simp] theorem littleEndian_length (w : Word) : (littleEndian w).length = 2 := rfl

@[simp] theorem crcFold_nil (c : Word) : crcFold c [] = c := rfl

@[simp] theorem crcFold_cons (c : Word) (b : Byte) (s : List Byte) : crcFold c (b :: s) = crcFold (crcStep c b) s := rfl

/-- The CRC can be computed piece by piece (R142 item 3). -/
theorem crcFold_append (c : Word) (s t : List Byte) : crcFold c (s ++ t) = crcFold (crcFold c s) t := by
  simp [crcFold]

theorem crc16_append (s t : List Byte) : crc16 (s ++ t) = crcFold (crc16 s) t := crcFold_append _ s t

/-- The bytes of a frame, counted. -/
theorem reqBytes_length (unit : Byte) (addr qty crc : Word) : (reqBytes unit addr qty crc).length = reqLen := rfl

theorem flatMap_bigEndian_length (regs : List Word) : (regs.flatMap bigEndian).length = 2 * regs.length := by
  induction regs with
  | nil => rfl
  | cons w regs ih => simp [ih]; omega

theorem rspBytes_length (unit byteCount : Byte) (regs : List Word) (crc : Word) :
    (rspBytes unit byteCount regs crc).length = rspLen regs.length := by
  simp [rspBytes, rspLen]; omega

theorem excBytes_length (unit : Byte) (func : BitVec 7) (code : Byte) (crc : Word) :
    (excBytes unit func code crc).length = excLen := rfl

end Sys2Proof.Machine
end

