-- ==== Sys2Proof/Laws/State.lean ====
section
/-! SUPPORT. One lemma per field per named update of the core: what the update makes of the field. -/

namespace Sys2Proof.Machine

/-! ### State.mapCore -/

@[simp] theorem State.mapCore_core (f : CoreState → CoreState) (s : State) : (s.mapCore f).core = f s.core := rfl
@[simp] theorem State.mapCore_port (f : CoreState → CoreState) (s : State) : (s.mapCore f).port = s.port := rfl

theorem State.mapCore_self (f : CoreState → CoreState) (s : State) (h : f s.core = s.core) : s.mapCore f = s := by
  cases s; simp only [State.mapCore, h]

/-! ### clearResults -/

@[simp] theorem clearResults_done (k : CoreState) : (clearResults k).done = false := rfl
@[simp] theorem clearResults_ok (k : CoreState) : (clearResults k).ok = false := rfl
@[simp] theorem clearResults_cmdErr (k : CoreState) : (clearResults k).cmdErr = k.cmdErr := rfl
@[simp] theorem clearResults_err (k : CoreState) : (clearResults k).err = .none := rfl
@[simp] theorem clearResults_lastErr (k : CoreState) : (clearResults k).lastErr = .none := rfl
@[simp] theorem clearResults_attempts (k : CoreState) : (clearResults k).attempts = 0 := rfl
@[simp] theorem clearResults_excCode (k : CoreState) : (clearResults k).excCode = 0 := rfl
@[simp] theorem clearResults_respTimeout (k : CoreState) : (clearResults k).respTimeout = k.respTimeout := rfl
@[simp] theorem clearResults_ibTimeout (k : CoreState) : (clearResults k).ibTimeout = k.ibTimeout := rfl
@[simp] theorem clearResults_maxRetries (k : CoreState) : (clearResults k).maxRetries = k.maxRetries := rfl
@[simp] theorem clearResults_reqUnit (k : CoreState) : (clearResults k).reqUnit = k.reqUnit := rfl
@[simp] theorem clearResults_reqFc (k : CoreState) : (clearResults k).reqFc = k.reqFc := rfl
@[simp] theorem clearResults_reqAddr (k : CoreState) : (clearResults k).reqAddr = k.reqAddr := rfl
@[simp] theorem clearResults_reqQty (k : CoreState) : (clearResults k).reqQty = k.reqQty := rfl
@[simp] theorem clearResults_respUnit (k : CoreState) : (clearResults k).respUnit = 0 := rfl
@[simp] theorem clearResults_respFc (k : CoreState) : (clearResults k).respFc = 0 := rfl
@[simp] theorem clearResults_respBc (k : CoreState) : (clearResults k).respBc = 0 := rfl
@[simp] theorem clearResults_respNreg (k : CoreState) : (clearResults k).respNreg = 0 := rfl
@[simp] theorem clearResults_txLen (k : CoreState) : (clearResults k).txLen = k.txLen := rfl
@[simp] theorem clearResults_crcAcc (k : CoreState) : (clearResults k).crcAcc = k.crcAcc := rfl
@[simp] theorem clearResults_regs (k : CoreState) : (clearResults k).regs = k.regs := rfl
@[simp] theorem clearResults_txbuf (k : CoreState) : (clearResults k).txbuf = k.txbuf := rfl
@[simp] theorem clearResults_rxbuf (k : CoreState) : (clearResults k).rxbuf = k.rxbuf := rfl
@[simp] theorem clearResults_rxCnt (k : CoreState) : (clearResults k).rxCnt = k.rxCnt := rfl
@[simp] theorem clearResults_fsm (k : CoreState) : (clearResults k).fsm = k.fsm := rfl
@[simp] theorem clearResults_txIdx (k : CoreState) : (clearResults k).txIdx = k.txIdx := rfl
@[simp] theorem clearResults_expLen (k : CoreState) : (clearResults k).expLen = k.expLen := rfl
@[simp] theorem clearResults_respTimer (k : CoreState) : (clearResults k).respTimer = k.respTimer := rfl
@[simp] theorem clearResults_ibTimer (k : CoreState) : (clearResults k).ibTimer = k.ibTimer := rfl
@[simp] theorem clearResults_mode (k : CoreState) : (clearResults k).mode = k.mode := rfl

/-! ### startAttempt -/

@[simp] theorem startAttempt_done (k : CoreState) : (startAttempt k).done = k.done := rfl
@[simp] theorem startAttempt_ok (k : CoreState) : (startAttempt k).ok = k.ok := rfl
@[simp] theorem startAttempt_cmdErr (k : CoreState) : (startAttempt k).cmdErr = k.cmdErr := rfl
@[simp] theorem startAttempt_err (k : CoreState) : (startAttempt k).err = k.err := rfl
@[simp] theorem startAttempt_lastErr (k : CoreState) : (startAttempt k).lastErr = k.lastErr := rfl
@[simp] theorem startAttempt_attempts (k : CoreState) : (startAttempt k).attempts = k.attempts := rfl
@[simp] theorem startAttempt_excCode (k : CoreState) : (startAttempt k).excCode = k.excCode := rfl
@[simp] theorem startAttempt_respTimeout (k : CoreState) : (startAttempt k).respTimeout = k.respTimeout := rfl
@[simp] theorem startAttempt_ibTimeout (k : CoreState) : (startAttempt k).ibTimeout = k.ibTimeout := rfl
@[simp] theorem startAttempt_maxRetries (k : CoreState) : (startAttempt k).maxRetries = k.maxRetries := rfl
@[simp] theorem startAttempt_reqUnit (k : CoreState) : (startAttempt k).reqUnit = k.reqUnit := rfl
@[simp] theorem startAttempt_reqFc (k : CoreState) : (startAttempt k).reqFc = k.reqFc := rfl
@[simp] theorem startAttempt_reqAddr (k : CoreState) : (startAttempt k).reqAddr = k.reqAddr := rfl
@[simp] theorem startAttempt_reqQty (k : CoreState) : (startAttempt k).reqQty = k.reqQty := rfl
@[simp] theorem startAttempt_respUnit (k : CoreState) : (startAttempt k).respUnit = k.respUnit := rfl
@[simp] theorem startAttempt_respFc (k : CoreState) : (startAttempt k).respFc = k.respFc := rfl
@[simp] theorem startAttempt_respBc (k : CoreState) : (startAttempt k).respBc = k.respBc := rfl
@[simp] theorem startAttempt_respNreg (k : CoreState) : (startAttempt k).respNreg = k.respNreg := rfl
@[simp] theorem startAttempt_txLen (k : CoreState) : (startAttempt k).txLen = k.txLen := rfl
@[simp] theorem startAttempt_crcAcc (k : CoreState) : (startAttempt k).crcAcc = k.crcAcc := rfl
@[simp] theorem startAttempt_regs (k : CoreState) : (startAttempt k).regs = k.regs := rfl
@[simp] theorem startAttempt_txbuf (k : CoreState) : (startAttempt k).txbuf = k.txbuf := rfl
@[simp] theorem startAttempt_rxbuf (k : CoreState) : (startAttempt k).rxbuf = k.rxbuf := rfl
@[simp] theorem startAttempt_rxCnt (k : CoreState) : (startAttempt k).rxCnt = 0 := rfl
@[simp] theorem startAttempt_fsm (k : CoreState) : (startAttempt k).fsm = .tx := rfl
@[simp] theorem startAttempt_txIdx (k : CoreState) : (startAttempt k).txIdx = 0 := rfl
@[simp] theorem startAttempt_expLen (k : CoreState) : (startAttempt k).expLen = k.expLen := rfl
@[simp] theorem startAttempt_respTimer (k : CoreState) : (startAttempt k).respTimer = k.respTimer := rfl
@[simp] theorem startAttempt_ibTimer (k : CoreState) : (startAttempt k).ibTimer = k.ibTimer := rfl
@[simp] theorem startAttempt_mode (k : CoreState) : (startAttempt k).mode = k.mode := rfl

/-! ### complete -/

@[simp] theorem complete_done (b : Bool) (e : ErrKind) (k : CoreState) : (complete b e k).done = true := rfl
@[simp] theorem complete_ok (b : Bool) (e : ErrKind) (k : CoreState) : (complete b e k).ok = b := rfl
@[simp] theorem complete_cmdErr (b : Bool) (e : ErrKind) (k : CoreState) : (complete b e k).cmdErr = k.cmdErr := rfl
@[simp] theorem complete_err (b : Bool) (e : ErrKind) (k : CoreState) : (complete b e k).err = e := rfl
@[simp] theorem complete_lastErr (b : Bool) (e : ErrKind) (k : CoreState) : (complete b e k).lastErr = k.lastErr := rfl
@[simp] theorem complete_attempts (b : Bool) (e : ErrKind) (k : CoreState) : (complete b e k).attempts = k.attempts := rfl
@[simp] theorem complete_excCode (b : Bool) (e : ErrKind) (k : CoreState) : (complete b e k).excCode = k.excCode := rfl
@[simp] theorem complete_respTimeout (b : Bool) (e : ErrKind) (k : CoreState) : (complete b e k).respTimeout = k.respTimeout := rfl
@[simp] theorem complete_ibTimeout (b : Bool) (e : ErrKind) (k : CoreState) : (complete b e k).ibTimeout = k.ibTimeout := rfl
@[simp] theorem complete_maxRetries (b : Bool) (e : ErrKind) (k : CoreState) : (complete b e k).maxRetries = k.maxRetries := rfl
@[simp] theorem complete_reqUnit (b : Bool) (e : ErrKind) (k : CoreState) : (complete b e k).reqUnit = k.reqUnit := rfl
@[simp] theorem complete_reqFc (b : Bool) (e : ErrKind) (k : CoreState) : (complete b e k).reqFc = k.reqFc := rfl
@[simp] theorem complete_reqAddr (b : Bool) (e : ErrKind) (k : CoreState) : (complete b e k).reqAddr = k.reqAddr := rfl
@[simp] theorem complete_reqQty (b : Bool) (e : ErrKind) (k : CoreState) : (complete b e k).reqQty = k.reqQty := rfl
@[simp] theorem complete_respUnit (b : Bool) (e : ErrKind) (k : CoreState) : (complete b e k).respUnit = k.respUnit := rfl
@[simp] theorem complete_respFc (b : Bool) (e : ErrKind) (k : CoreState) : (complete b e k).respFc = k.respFc := rfl
@[simp] theorem complete_respBc (b : Bool) (e : ErrKind) (k : CoreState) : (complete b e k).respBc = k.respBc := rfl
@[simp] theorem complete_respNreg (b : Bool) (e : ErrKind) (k : CoreState) : (complete b e k).respNreg = k.respNreg := rfl
@[simp] theorem complete_txLen (b : Bool) (e : ErrKind) (k : CoreState) : (complete b e k).txLen = k.txLen := rfl
@[simp] theorem complete_crcAcc (b : Bool) (e : ErrKind) (k : CoreState) : (complete b e k).crcAcc = k.crcAcc := rfl
@[simp] theorem complete_regs (b : Bool) (e : ErrKind) (k : CoreState) : (complete b e k).regs = k.regs := rfl
@[simp] theorem complete_txbuf (b : Bool) (e : ErrKind) (k : CoreState) : (complete b e k).txbuf = k.txbuf := rfl
@[simp] theorem complete_rxbuf (b : Bool) (e : ErrKind) (k : CoreState) : (complete b e k).rxbuf = k.rxbuf := rfl
@[simp] theorem complete_rxCnt (b : Bool) (e : ErrKind) (k : CoreState) : (complete b e k).rxCnt = 0 := rfl
@[simp] theorem complete_fsm (b : Bool) (e : ErrKind) (k : CoreState) : (complete b e k).fsm = .idle := rfl
@[simp] theorem complete_txIdx (b : Bool) (e : ErrKind) (k : CoreState) : (complete b e k).txIdx = k.txIdx := rfl
@[simp] theorem complete_expLen (b : Bool) (e : ErrKind) (k : CoreState) : (complete b e k).expLen = k.expLen := rfl
@[simp] theorem complete_respTimer (b : Bool) (e : ErrKind) (k : CoreState) : (complete b e k).respTimer = k.respTimer := rfl
@[simp] theorem complete_ibTimer (b : Bool) (e : ErrKind) (k : CoreState) : (complete b e k).ibTimer = k.ibTimer := rfl
@[simp] theorem complete_mode (b : Bool) (e : ErrKind) (k : CoreState) : (complete b e k).mode = k.mode := rfl

/-! ### discardFrame -/

@[simp] theorem discardFrame_done (e : ErrKind) (k : CoreState) : (discardFrame e k).done = k.done := rfl
@[simp] theorem discardFrame_ok (e : ErrKind) (k : CoreState) : (discardFrame e k).ok = k.ok := rfl
@[simp] theorem discardFrame_cmdErr (e : ErrKind) (k : CoreState) : (discardFrame e k).cmdErr = k.cmdErr := rfl
@[simp] theorem discardFrame_err (e : ErrKind) (k : CoreState) : (discardFrame e k).err = k.err := rfl
@[simp] theorem discardFrame_lastErr (e : ErrKind) (k : CoreState) : (discardFrame e k).lastErr = e := rfl
@[simp] theorem discardFrame_attempts (e : ErrKind) (k : CoreState) : (discardFrame e k).attempts = k.attempts := rfl
@[simp] theorem discardFrame_excCode (e : ErrKind) (k : CoreState) : (discardFrame e k).excCode = k.excCode := rfl
@[simp] theorem discardFrame_respTimeout (e : ErrKind) (k : CoreState) : (discardFrame e k).respTimeout = k.respTimeout := rfl
@[simp] theorem discardFrame_ibTimeout (e : ErrKind) (k : CoreState) : (discardFrame e k).ibTimeout = k.ibTimeout := rfl
@[simp] theorem discardFrame_maxRetries (e : ErrKind) (k : CoreState) : (discardFrame e k).maxRetries = k.maxRetries := rfl
@[simp] theorem discardFrame_reqUnit (e : ErrKind) (k : CoreState) : (discardFrame e k).reqUnit = k.reqUnit := rfl
@[simp] theorem discardFrame_reqFc (e : ErrKind) (k : CoreState) : (discardFrame e k).reqFc = k.reqFc := rfl
@[simp] theorem discardFrame_reqAddr (e : ErrKind) (k : CoreState) : (discardFrame e k).reqAddr = k.reqAddr := rfl
@[simp] theorem discardFrame_reqQty (e : ErrKind) (k : CoreState) : (discardFrame e k).reqQty = k.reqQty := rfl
@[simp] theorem discardFrame_respUnit (e : ErrKind) (k : CoreState) : (discardFrame e k).respUnit = k.respUnit := rfl
@[simp] theorem discardFrame_respFc (e : ErrKind) (k : CoreState) : (discardFrame e k).respFc = k.respFc := rfl
@[simp] theorem discardFrame_respBc (e : ErrKind) (k : CoreState) : (discardFrame e k).respBc = k.respBc := rfl
@[simp] theorem discardFrame_respNreg (e : ErrKind) (k : CoreState) : (discardFrame e k).respNreg = k.respNreg := rfl
@[simp] theorem discardFrame_txLen (e : ErrKind) (k : CoreState) : (discardFrame e k).txLen = k.txLen := rfl
@[simp] theorem discardFrame_crcAcc (e : ErrKind) (k : CoreState) : (discardFrame e k).crcAcc = k.crcAcc := rfl
@[simp] theorem discardFrame_regs (e : ErrKind) (k : CoreState) : (discardFrame e k).regs = k.regs := rfl
@[simp] theorem discardFrame_txbuf (e : ErrKind) (k : CoreState) : (discardFrame e k).txbuf = k.txbuf := rfl
@[simp] theorem discardFrame_rxbuf (e : ErrKind) (k : CoreState) : (discardFrame e k).rxbuf = k.rxbuf := rfl
@[simp] theorem discardFrame_rxCnt (e : ErrKind) (k : CoreState) : (discardFrame e k).rxCnt = 0 := rfl
@[simp] theorem discardFrame_fsm (e : ErrKind) (k : CoreState) : (discardFrame e k).fsm = k.fsm := rfl
@[simp] theorem discardFrame_txIdx (e : ErrKind) (k : CoreState) : (discardFrame e k).txIdx = k.txIdx := rfl
@[simp] theorem discardFrame_expLen (e : ErrKind) (k : CoreState) : (discardFrame e k).expLen = k.expLen := rfl
@[simp] theorem discardFrame_respTimer (e : ErrKind) (k : CoreState) : (discardFrame e k).respTimer = k.respTimer := rfl
@[simp] theorem discardFrame_ibTimer (e : ErrKind) (k : CoreState) : (discardFrame e k).ibTimer = k.ibTimer := rfl
@[simp] theorem discardFrame_mode (e : ErrKind) (k : CoreState) : (discardFrame e k).mode = k.mode := rfl

/-! ### retryAttempt -/

@[simp] theorem retryAttempt_done (k : CoreState) : (retryAttempt k).done = k.done := rfl
@[simp] theorem retryAttempt_ok (k : CoreState) : (retryAttempt k).ok = k.ok := rfl
@[simp] theorem retryAttempt_cmdErr (k : CoreState) : (retryAttempt k).cmdErr = k.cmdErr := rfl
@[simp] theorem retryAttempt_err (k : CoreState) : (retryAttempt k).err = k.err := rfl
@[simp] theorem retryAttempt_lastErr (k : CoreState) : (retryAttempt k).lastErr = k.lastErr := rfl
@[simp] theorem retryAttempt_attempts (k : CoreState) : (retryAttempt k).attempts = k.attempts + 1 := rfl
@[simp] theorem retryAttempt_excCode (k : CoreState) : (retryAttempt k).excCode = k.excCode := rfl
@[simp] theorem retryAttempt_respTimeout (k : CoreState) : (retryAttempt k).respTimeout = k.respTimeout := rfl
@[simp] theorem retryAttempt_ibTimeout (k : CoreState) : (retryAttempt k).ibTimeout = k.ibTimeout := rfl
@[simp] theorem retryAttempt_maxRetries (k : CoreState) : (retryAttempt k).maxRetries = k.maxRetries := rfl
@[simp] theorem retryAttempt_reqUnit (k : CoreState) : (retryAttempt k).reqUnit = k.reqUnit := rfl
@[simp] theorem retryAttempt_reqFc (k : CoreState) : (retryAttempt k).reqFc = k.reqFc := rfl
@[simp] theorem retryAttempt_reqAddr (k : CoreState) : (retryAttempt k).reqAddr = k.reqAddr := rfl
@[simp] theorem retryAttempt_reqQty (k : CoreState) : (retryAttempt k).reqQty = k.reqQty := rfl
@[simp] theorem retryAttempt_respUnit (k : CoreState) : (retryAttempt k).respUnit = k.respUnit := rfl
@[simp] theorem retryAttempt_respFc (k : CoreState) : (retryAttempt k).respFc = k.respFc := rfl
@[simp] theorem retryAttempt_respBc (k : CoreState) : (retryAttempt k).respBc = k.respBc := rfl
@[simp] theorem retryAttempt_respNreg (k : CoreState) : (retryAttempt k).respNreg = k.respNreg := rfl
@[simp] theorem retryAttempt_txLen (k : CoreState) : (retryAttempt k).txLen = k.txLen := rfl
@[simp] theorem retryAttempt_crcAcc (k : CoreState) : (retryAttempt k).crcAcc = k.crcAcc := rfl
@[simp] theorem retryAttempt_regs (k : CoreState) : (retryAttempt k).regs = k.regs := rfl
@[simp] theorem retryAttempt_txbuf (k : CoreState) : (retryAttempt k).txbuf = k.txbuf := rfl
@[simp] theorem retryAttempt_rxbuf (k : CoreState) : (retryAttempt k).rxbuf = k.rxbuf := rfl
@[simp] theorem retryAttempt_rxCnt (k : CoreState) : (retryAttempt k).rxCnt = 0 := rfl
@[simp] theorem retryAttempt_fsm (k : CoreState) : (retryAttempt k).fsm = .tx := rfl
@[simp] theorem retryAttempt_txIdx (k : CoreState) : (retryAttempt k).txIdx = 0 := rfl
@[simp] theorem retryAttempt_expLen (k : CoreState) : (retryAttempt k).expLen = k.expLen := rfl
@[simp] theorem retryAttempt_respTimer (k : CoreState) : (retryAttempt k).respTimer = k.respTimer := rfl
@[simp] theorem retryAttempt_ibTimer (k : CoreState) : (retryAttempt k).ibTimer = k.ibTimer := rfl
@[simp] theorem retryAttempt_mode (k : CoreState) : (retryAttempt k).mode = k.mode := rfl

/-! ### takeFirstByte -/

@[simp] theorem takeFirstByte_done (b : Byte) (k : CoreState) : (takeFirstByte b k).done = k.done := rfl
@[simp] theorem takeFirstByte_ok (b : Byte) (k : CoreState) : (takeFirstByte b k).ok = k.ok := rfl
@[simp] theorem takeFirstByte_cmdErr (b : Byte) (k : CoreState) : (takeFirstByte b k).cmdErr = k.cmdErr := rfl
@[simp] theorem takeFirstByte_err (b : Byte) (k : CoreState) : (takeFirstByte b k).err = k.err := rfl
@[simp] theorem takeFirstByte_lastErr (b : Byte) (k : CoreState) : (takeFirstByte b k).lastErr = k.lastErr := rfl
@[simp] theorem takeFirstByte_attempts (b : Byte) (k : CoreState) : (takeFirstByte b k).attempts = k.attempts := rfl
@[simp] theorem takeFirstByte_excCode (b : Byte) (k : CoreState) : (takeFirstByte b k).excCode = k.excCode := rfl
@[simp] theorem takeFirstByte_respTimeout (b : Byte) (k : CoreState) : (takeFirstByte b k).respTimeout = k.respTimeout := rfl
@[simp] theorem takeFirstByte_ibTimeout (b : Byte) (k : CoreState) : (takeFirstByte b k).ibTimeout = k.ibTimeout := rfl
@[simp] theorem takeFirstByte_maxRetries (b : Byte) (k : CoreState) : (takeFirstByte b k).maxRetries = k.maxRetries := rfl
@[simp] theorem takeFirstByte_reqUnit (b : Byte) (k : CoreState) : (takeFirstByte b k).reqUnit = k.reqUnit := rfl
@[simp] theorem takeFirstByte_reqFc (b : Byte) (k : CoreState) : (takeFirstByte b k).reqFc = k.reqFc := rfl
@[simp] theorem takeFirstByte_reqAddr (b : Byte) (k : CoreState) : (takeFirstByte b k).reqAddr = k.reqAddr := rfl
@[simp] theorem takeFirstByte_reqQty (b : Byte) (k : CoreState) : (takeFirstByte b k).reqQty = k.reqQty := rfl
@[simp] theorem takeFirstByte_respUnit (b : Byte) (k : CoreState) : (takeFirstByte b k).respUnit = k.respUnit := rfl
@[simp] theorem takeFirstByte_respFc (b : Byte) (k : CoreState) : (takeFirstByte b k).respFc = k.respFc := rfl
@[simp] theorem takeFirstByte_respBc (b : Byte) (k : CoreState) : (takeFirstByte b k).respBc = k.respBc := rfl
@[simp] theorem takeFirstByte_respNreg (b : Byte) (k : CoreState) : (takeFirstByte b k).respNreg = k.respNreg := rfl
@[simp] theorem takeFirstByte_txLen (b : Byte) (k : CoreState) : (takeFirstByte b k).txLen = k.txLen := rfl
@[simp] theorem takeFirstByte_crcAcc (b : Byte) (k : CoreState) : (takeFirstByte b k).crcAcc = k.crcAcc := rfl
@[simp] theorem takeFirstByte_regs (b : Byte) (k : CoreState) : (takeFirstByte b k).regs = k.regs := rfl
@[simp] theorem takeFirstByte_txbuf (b : Byte) (k : CoreState) : (takeFirstByte b k).txbuf = k.txbuf := rfl
@[simp] theorem takeFirstByte_rxbuf (b : Byte) (k : CoreState) : (takeFirstByte b k).rxbuf = k.rxbuf.set 0 b := rfl
@[simp] theorem takeFirstByte_rxCnt (b : Byte) (k : CoreState) : (takeFirstByte b k).rxCnt = 1 := rfl
@[simp] theorem takeFirstByte_fsm (b : Byte) (k : CoreState) : (takeFirstByte b k).fsm = .recv := rfl
@[simp] theorem takeFirstByte_txIdx (b : Byte) (k : CoreState) : (takeFirstByte b k).txIdx = k.txIdx := rfl
@[simp] theorem takeFirstByte_expLen (b : Byte) (k : CoreState) : (takeFirstByte b k).expLen = k.expLen := rfl
@[simp] theorem takeFirstByte_respTimer (b : Byte) (k : CoreState) : (takeFirstByte b k).respTimer = k.respTimer := rfl
@[simp] theorem takeFirstByte_ibTimer (b : Byte) (k : CoreState) : (takeFirstByte b k).ibTimer = 0 := rfl
@[simp] theorem takeFirstByte_mode (b : Byte) (k : CoreState) : (takeFirstByte b k).mode = k.mode := rfl

/-! ### countWait -/

@[simp] theorem countWait_done (k : CoreState) : (countWait k).done = k.done := rfl
@[simp] theorem countWait_ok (k : CoreState) : (countWait k).ok = k.ok := rfl
@[simp] theorem countWait_cmdErr (k : CoreState) : (countWait k).cmdErr = k.cmdErr := rfl
@[simp] theorem countWait_err (k : CoreState) : (countWait k).err = k.err := rfl
@[simp] theorem countWait_lastErr (k : CoreState) : (countWait k).lastErr = k.lastErr := rfl
@[simp] theorem countWait_attempts (k : CoreState) : (countWait k).attempts = k.attempts := rfl
@[simp] theorem countWait_excCode (k : CoreState) : (countWait k).excCode = k.excCode := rfl
@[simp] theorem countWait_respTimeout (k : CoreState) : (countWait k).respTimeout = k.respTimeout := rfl
@[simp] theorem countWait_ibTimeout (k : CoreState) : (countWait k).ibTimeout = k.ibTimeout := rfl
@[simp] theorem countWait_maxRetries (k : CoreState) : (countWait k).maxRetries = k.maxRetries := rfl
@[simp] theorem countWait_reqUnit (k : CoreState) : (countWait k).reqUnit = k.reqUnit := rfl
@[simp] theorem countWait_reqFc (k : CoreState) : (countWait k).reqFc = k.reqFc := rfl
@[simp] theorem countWait_reqAddr (k : CoreState) : (countWait k).reqAddr = k.reqAddr := rfl
@[simp] theorem countWait_reqQty (k : CoreState) : (countWait k).reqQty = k.reqQty := rfl
@[simp] theorem countWait_respUnit (k : CoreState) : (countWait k).respUnit = k.respUnit := rfl
@[simp] theorem countWait_respFc (k : CoreState) : (countWait k).respFc = k.respFc := rfl
@[simp] theorem countWait_respBc (k : CoreState) : (countWait k).respBc = k.respBc := rfl
@[simp] theorem countWait_respNreg (k : CoreState) : (countWait k).respNreg = k.respNreg := rfl
@[simp] theorem countWait_txLen (k : CoreState) : (countWait k).txLen = k.txLen := rfl
@[simp] theorem countWait_crcAcc (k : CoreState) : (countWait k).crcAcc = k.crcAcc := rfl
@[simp] theorem countWait_regs (k : CoreState) : (countWait k).regs = k.regs := rfl
@[simp] theorem countWait_txbuf (k : CoreState) : (countWait k).txbuf = k.txbuf := rfl
@[simp] theorem countWait_rxbuf (k : CoreState) : (countWait k).rxbuf = k.rxbuf := rfl
@[simp] theorem countWait_rxCnt (k : CoreState) : (countWait k).rxCnt = k.rxCnt := rfl
@[simp] theorem countWait_fsm (k : CoreState) : (countWait k).fsm = k.fsm := rfl
@[simp] theorem countWait_txIdx (k : CoreState) : (countWait k).txIdx = k.txIdx := rfl
@[simp] theorem countWait_expLen (k : CoreState) : (countWait k).expLen = k.expLen := rfl
@[simp] theorem countWait_respTimer (k : CoreState) : (countWait k).respTimer = k.respTimer + 1 := rfl
@[simp] theorem countWait_ibTimer (k : CoreState) : (countWait k).ibTimer = k.ibTimer := rfl
@[simp] theorem countWait_mode (k : CoreState) : (countWait k).mode = k.mode := rfl

/-! ### countRecv -/

@[simp] theorem countRecv_done (k : CoreState) : (countRecv k).done = k.done := rfl
@[simp] theorem countRecv_ok (k : CoreState) : (countRecv k).ok = k.ok := rfl
@[simp] theorem countRecv_cmdErr (k : CoreState) : (countRecv k).cmdErr = k.cmdErr := rfl
@[simp] theorem countRecv_err (k : CoreState) : (countRecv k).err = k.err := rfl
@[simp] theorem countRecv_lastErr (k : CoreState) : (countRecv k).lastErr = k.lastErr := rfl
@[simp] theorem countRecv_attempts (k : CoreState) : (countRecv k).attempts = k.attempts := rfl
@[simp] theorem countRecv_excCode (k : CoreState) : (countRecv k).excCode = k.excCode := rfl
@[simp] theorem countRecv_respTimeout (k : CoreState) : (countRecv k).respTimeout = k.respTimeout := rfl
@[simp] theorem countRecv_ibTimeout (k : CoreState) : (countRecv k).ibTimeout = k.ibTimeout := rfl
@[simp] theorem countRecv_maxRetries (k : CoreState) : (countRecv k).maxRetries = k.maxRetries := rfl
@[simp] theorem countRecv_reqUnit (k : CoreState) : (countRecv k).reqUnit = k.reqUnit := rfl
@[simp] theorem countRecv_reqFc (k : CoreState) : (countRecv k).reqFc = k.reqFc := rfl
@[simp] theorem countRecv_reqAddr (k : CoreState) : (countRecv k).reqAddr = k.reqAddr := rfl
@[simp] theorem countRecv_reqQty (k : CoreState) : (countRecv k).reqQty = k.reqQty := rfl
@[simp] theorem countRecv_respUnit (k : CoreState) : (countRecv k).respUnit = k.respUnit := rfl
@[simp] theorem countRecv_respFc (k : CoreState) : (countRecv k).respFc = k.respFc := rfl
@[simp] theorem countRecv_respBc (k : CoreState) : (countRecv k).respBc = k.respBc := rfl
@[simp] theorem countRecv_respNreg (k : CoreState) : (countRecv k).respNreg = k.respNreg := rfl
@[simp] theorem countRecv_txLen (k : CoreState) : (countRecv k).txLen = k.txLen := rfl
@[simp] theorem countRecv_crcAcc (k : CoreState) : (countRecv k).crcAcc = k.crcAcc := rfl
@[simp] theorem countRecv_regs (k : CoreState) : (countRecv k).regs = k.regs := rfl
@[simp] theorem countRecv_txbuf (k : CoreState) : (countRecv k).txbuf = k.txbuf := rfl
@[simp] theorem countRecv_rxbuf (k : CoreState) : (countRecv k).rxbuf = k.rxbuf := rfl
@[simp] theorem countRecv_rxCnt (k : CoreState) : (countRecv k).rxCnt = k.rxCnt := rfl
@[simp] theorem countRecv_fsm (k : CoreState) : (countRecv k).fsm = k.fsm := rfl
@[simp] theorem countRecv_txIdx (k : CoreState) : (countRecv k).txIdx = k.txIdx := rfl
@[simp] theorem countRecv_expLen (k : CoreState) : (countRecv k).expLen = k.expLen := rfl
@[simp] theorem countRecv_respTimer (k : CoreState) : (countRecv k).respTimer = k.respTimer + 1 := rfl
@[simp] theorem countRecv_ibTimer (k : CoreState) : (countRecv k).ibTimer = k.ibTimer + 1 := rfl
@[simp] theorem countRecv_mode (k : CoreState) : (countRecv k).mode = k.mode := rfl

/-! ### startDecode -/

@[simp] theorem startDecode_done (k : CoreState) : (startDecode k).done = k.done := rfl
@[simp] theorem startDecode_ok (k : CoreState) : (startDecode k).ok = k.ok := rfl
@[simp] theorem startDecode_cmdErr (k : CoreState) : (startDecode k).cmdErr = k.cmdErr := rfl
@[simp] theorem startDecode_err (k : CoreState) : (startDecode k).err = k.err := rfl
@[simp] theorem startDecode_lastErr (k : CoreState) : (startDecode k).lastErr = k.lastErr := rfl
@[simp] theorem startDecode_attempts (k : CoreState) : (startDecode k).attempts = k.attempts := rfl
@[simp] theorem startDecode_excCode (k : CoreState) : (startDecode k).excCode = k.excCode := rfl
@[simp] theorem startDecode_respTimeout (k : CoreState) : (startDecode k).respTimeout = k.respTimeout := rfl
@[simp] theorem startDecode_ibTimeout (k : CoreState) : (startDecode k).ibTimeout = k.ibTimeout := rfl
@[simp] theorem startDecode_maxRetries (k : CoreState) : (startDecode k).maxRetries = k.maxRetries := rfl
@[simp] theorem startDecode_reqUnit (k : CoreState) : (startDecode k).reqUnit = k.reqUnit := rfl
@[simp] theorem startDecode_reqFc (k : CoreState) : (startDecode k).reqFc = k.reqFc := rfl
@[simp] theorem startDecode_reqAddr (k : CoreState) : (startDecode k).reqAddr = k.reqAddr := rfl
@[simp] theorem startDecode_reqQty (k : CoreState) : (startDecode k).reqQty = k.reqQty := rfl
@[simp] theorem startDecode_respUnit (k : CoreState) : (startDecode k).respUnit = k.respUnit := rfl
@[simp] theorem startDecode_respFc (k : CoreState) : (startDecode k).respFc = k.respFc := rfl
@[simp] theorem startDecode_respBc (k : CoreState) : (startDecode k).respBc = k.respBc := rfl
@[simp] theorem startDecode_respNreg (k : CoreState) : (startDecode k).respNreg = k.respNreg := rfl
@[simp] theorem startDecode_txLen (k : CoreState) : (startDecode k).txLen = k.txLen := rfl
@[simp] theorem startDecode_crcAcc (k : CoreState) : (startDecode k).crcAcc = k.crcAcc := rfl
@[simp] theorem startDecode_regs (k : CoreState) : (startDecode k).regs = k.regs := rfl
@[simp] theorem startDecode_txbuf (k : CoreState) : (startDecode k).txbuf = k.txbuf := rfl
@[simp] theorem startDecode_rxbuf (k : CoreState) : (startDecode k).rxbuf = k.rxbuf := rfl
@[simp] theorem startDecode_rxCnt (k : CoreState) : (startDecode k).rxCnt = 0 := rfl
@[simp] theorem startDecode_fsm (k : CoreState) : (startDecode k).fsm = .wait := rfl
@[simp] theorem startDecode_txIdx (k : CoreState) : (startDecode k).txIdx = k.txIdx := rfl
@[simp] theorem startDecode_expLen (k : CoreState) : (startDecode k).expLen = expectedLength k := rfl
@[simp] theorem startDecode_respTimer (k : CoreState) : (startDecode k).respTimer = 0 := rfl
@[simp] theorem startDecode_ibTimer (k : CoreState) : (startDecode k).ibTimer = 0 := rfl
@[simp] theorem startDecode_mode (k : CoreState) : (startDecode k).mode = .decode := rfl

/-! ### startExecute -/

@[simp] theorem startExecute_done (k : CoreState) : (startExecute k).done = k.done := rfl
@[simp] theorem startExecute_ok (k : CoreState) : (startExecute k).ok = k.ok := rfl
@[simp] theorem startExecute_cmdErr (k : CoreState) : (startExecute k).cmdErr = k.cmdErr := rfl
@[simp] theorem startExecute_err (k : CoreState) : (startExecute k).err = k.err := rfl
@[simp] theorem startExecute_lastErr (k : CoreState) : (startExecute k).lastErr = k.lastErr := rfl
@[simp] theorem startExecute_attempts (k : CoreState) : (startExecute k).attempts = 1 := rfl
@[simp] theorem startExecute_excCode (k : CoreState) : (startExecute k).excCode = k.excCode := rfl
@[simp] theorem startExecute_respTimeout (k : CoreState) : (startExecute k).respTimeout = k.respTimeout := rfl
@[simp] theorem startExecute_ibTimeout (k : CoreState) : (startExecute k).ibTimeout = k.ibTimeout := rfl
@[simp] theorem startExecute_maxRetries (k : CoreState) : (startExecute k).maxRetries = k.maxRetries := rfl
@[simp] theorem startExecute_reqUnit (k : CoreState) : (startExecute k).reqUnit = k.reqUnit := rfl
@[simp] theorem startExecute_reqFc (k : CoreState) : (startExecute k).reqFc = k.reqFc := rfl
@[simp] theorem startExecute_reqAddr (k : CoreState) : (startExecute k).reqAddr = k.reqAddr := rfl
@[simp] theorem startExecute_reqQty (k : CoreState) : (startExecute k).reqQty = k.reqQty := rfl
@[simp] theorem startExecute_respUnit (k : CoreState) : (startExecute k).respUnit = k.respUnit := rfl
@[simp] theorem startExecute_respFc (k : CoreState) : (startExecute k).respFc = k.respFc := rfl
@[simp] theorem startExecute_respBc (k : CoreState) : (startExecute k).respBc = k.respBc := rfl
@[simp] theorem startExecute_respNreg (k : CoreState) : (startExecute k).respNreg = k.respNreg := rfl
@[simp] theorem startExecute_txLen (k : CoreState) : (startExecute k).txLen = k.txLen := rfl
@[simp] theorem startExecute_crcAcc (k : CoreState) : (startExecute k).crcAcc = k.crcAcc := rfl
@[simp] theorem startExecute_regs (k : CoreState) : (startExecute k).regs = k.regs := rfl
@[simp] theorem startExecute_txbuf (k : CoreState) : (startExecute k).txbuf = k.txbuf := rfl
@[simp] theorem startExecute_rxbuf (k : CoreState) : (startExecute k).rxbuf = k.rxbuf := rfl
@[simp] theorem startExecute_rxCnt (k : CoreState) : (startExecute k).rxCnt = 0 := rfl
@[simp] theorem startExecute_fsm (k : CoreState) : (startExecute k).fsm = .tx := rfl
@[simp] theorem startExecute_txIdx (k : CoreState) : (startExecute k).txIdx = 0 := rfl
@[simp] theorem startExecute_expLen (k : CoreState) : (startExecute k).expLen = expectedLength k := rfl
@[simp] theorem startExecute_respTimer (k : CoreState) : (startExecute k).respTimer = k.respTimer := rfl
@[simp] theorem startExecute_ibTimer (k : CoreState) : (startExecute k).ibTimer = k.ibTimer := rfl
@[simp] theorem startExecute_mode (k : CoreState) : (startExecute k).mode = .execute := rfl

/-! ### openWindow -/

@[simp] theorem openWindow_done (k : CoreState) : (openWindow k).done = k.done := rfl
@[simp] theorem openWindow_ok (k : CoreState) : (openWindow k).ok = k.ok := rfl
@[simp] theorem openWindow_cmdErr (k : CoreState) : (openWindow k).cmdErr = k.cmdErr := rfl
@[simp] theorem openWindow_err (k : CoreState) : (openWindow k).err = k.err := rfl
@[simp] theorem openWindow_lastErr (k : CoreState) : (openWindow k).lastErr = k.lastErr := rfl
@[simp] theorem openWindow_attempts (k : CoreState) : (openWindow k).attempts = k.attempts := rfl
@[simp] theorem openWindow_excCode (k : CoreState) : (openWindow k).excCode = k.excCode := rfl
@[simp] theorem openWindow_respTimeout (k : CoreState) : (openWindow k).respTimeout = k.respTimeout := rfl
@[simp] theorem openWindow_ibTimeout (k : CoreState) : (openWindow k).ibTimeout = k.ibTimeout := rfl
@[simp] theorem openWindow_maxRetries (k : CoreState) : (openWindow k).maxRetries = k.maxRetries := rfl
@[simp] theorem openWindow_reqUnit (k : CoreState) : (openWindow k).reqUnit = k.reqUnit := rfl
@[simp] theorem openWindow_reqFc (k : CoreState) : (openWindow k).reqFc = k.reqFc := rfl
@[simp] theorem openWindow_reqAddr (k : CoreState) : (openWindow k).reqAddr = k.reqAddr := rfl
@[simp] theorem openWindow_reqQty (k : CoreState) : (openWindow k).reqQty = k.reqQty := rfl
@[simp] theorem openWindow_respUnit (k : CoreState) : (openWindow k).respUnit = k.respUnit := rfl
@[simp] theorem openWindow_respFc (k : CoreState) : (openWindow k).respFc = k.respFc := rfl
@[simp] theorem openWindow_respBc (k : CoreState) : (openWindow k).respBc = k.respBc := rfl
@[simp] theorem openWindow_respNreg (k : CoreState) : (openWindow k).respNreg = k.respNreg := rfl
@[simp] theorem openWindow_txLen (k : CoreState) : (openWindow k).txLen = k.txLen := rfl
@[simp] theorem openWindow_crcAcc (k : CoreState) : (openWindow k).crcAcc = k.crcAcc := rfl
@[simp] theorem openWindow_regs (k : CoreState) : (openWindow k).regs = k.regs := rfl
@[simp] theorem openWindow_txbuf (k : CoreState) : (openWindow k).txbuf = k.txbuf := rfl
@[simp] theorem openWindow_rxbuf (k : CoreState) : (openWindow k).rxbuf = k.rxbuf := rfl
@[simp] theorem openWindow_rxCnt (k : CoreState) : (openWindow k).rxCnt = k.rxCnt := rfl
@[simp] theorem openWindow_fsm (k : CoreState) : (openWindow k).fsm = .wait := rfl
@[simp] theorem openWindow_txIdx (k : CoreState) : (openWindow k).txIdx = 8 := rfl
@[simp] theorem openWindow_expLen (k : CoreState) : (openWindow k).expLen = k.expLen := rfl
@[simp] theorem openWindow_respTimer (k : CoreState) : (openWindow k).respTimer = 0 := rfl
@[simp] theorem openWindow_ibTimer (k : CoreState) : (openWindow k).ibTimer = 0 := rfl
@[simp] theorem openWindow_mode (k : CoreState) : (openWindow k).mode = k.mode := rfl

/-! ### writeResponse -/

@[simp] theorem writeResponse_done (f : List Byte) (l : List Word) (k : CoreState) : (writeResponse f l k).done = true := rfl
@[simp] theorem writeResponse_ok (f : List Byte) (l : List Word) (k : CoreState) : (writeResponse f l k).ok = true := rfl
@[simp] theorem writeResponse_cmdErr (f : List Byte) (l : List Word) (k : CoreState) : (writeResponse f l k).cmdErr = k.cmdErr := rfl
@[simp] theorem writeResponse_err (f : List Byte) (l : List Word) (k : CoreState) : (writeResponse f l k).err = .none := rfl
@[simp] theorem writeResponse_lastErr (f : List Byte) (l : List Word) (k : CoreState) : (writeResponse f l k).lastErr = k.lastErr := rfl
@[simp] theorem writeResponse_attempts (f : List Byte) (l : List Word) (k : CoreState) : (writeResponse f l k).attempts = k.attempts := rfl
@[simp] theorem writeResponse_excCode (f : List Byte) (l : List Word) (k : CoreState) : (writeResponse f l k).excCode = k.excCode := rfl
@[simp] theorem writeResponse_respTimeout (f : List Byte) (l : List Word) (k : CoreState) : (writeResponse f l k).respTimeout = k.respTimeout := rfl
@[simp] theorem writeResponse_ibTimeout (f : List Byte) (l : List Word) (k : CoreState) : (writeResponse f l k).ibTimeout = k.ibTimeout := rfl
@[simp] theorem writeResponse_maxRetries (f : List Byte) (l : List Word) (k : CoreState) : (writeResponse f l k).maxRetries = k.maxRetries := rfl
@[simp] theorem writeResponse_reqUnit (f : List Byte) (l : List Word) (k : CoreState) : (writeResponse f l k).reqUnit = k.reqUnit := rfl
@[simp] theorem writeResponse_reqFc (f : List Byte) (l : List Word) (k : CoreState) : (writeResponse f l k).reqFc = k.reqFc := rfl
@[simp] theorem writeResponse_reqAddr (f : List Byte) (l : List Word) (k : CoreState) : (writeResponse f l k).reqAddr = k.reqAddr := rfl
@[simp] theorem writeResponse_reqQty (f : List Byte) (l : List Word) (k : CoreState) : (writeResponse f l k).reqQty = k.reqQty := rfl
@[simp] theorem writeResponse_respUnit (f : List Byte) (l : List Word) (k : CoreState) : (writeResponse f l k).respUnit = frameByte f 0 := rfl
@[simp] theorem writeResponse_respFc (f : List Byte) (l : List Word) (k : CoreState) : (writeResponse f l k).respFc = frameByte f 1 := rfl
@[simp] theorem writeResponse_respBc (f : List Byte) (l : List Word) (k : CoreState) : (writeResponse f l k).respBc = frameByte f 2 := rfl
@[simp] theorem writeResponse_respNreg (f : List Byte) (l : List Word) (k : CoreState) : (writeResponse f l k).respNreg = k.reqQty.setWidth 7 := rfl
@[simp] theorem writeResponse_txLen (f : List Byte) (l : List Word) (k : CoreState) : (writeResponse f l k).txLen = k.txLen := rfl
@[simp] theorem writeResponse_crcAcc (f : List Byte) (l : List Word) (k : CoreState) : (writeResponse f l k).crcAcc = k.crcAcc := rfl
@[simp] theorem writeResponse_regs (f : List Byte) (l : List Word) (k : CoreState) : (writeResponse f l k).regs = storeRegs k.regs l := rfl
@[simp] theorem writeResponse_txbuf (f : List Byte) (l : List Word) (k : CoreState) : (writeResponse f l k).txbuf = k.txbuf := rfl
@[simp] theorem writeResponse_rxbuf (f : List Byte) (l : List Word) (k : CoreState) : (writeResponse f l k).rxbuf = k.rxbuf := rfl
@[simp] theorem writeResponse_rxCnt (f : List Byte) (l : List Word) (k : CoreState) : (writeResponse f l k).rxCnt = 0 := rfl
@[simp] theorem writeResponse_fsm (f : List Byte) (l : List Word) (k : CoreState) : (writeResponse f l k).fsm = .idle := rfl
@[simp] theorem writeResponse_txIdx (f : List Byte) (l : List Word) (k : CoreState) : (writeResponse f l k).txIdx = k.txIdx := rfl
@[simp] theorem writeResponse_expLen (f : List Byte) (l : List Word) (k : CoreState) : (writeResponse f l k).expLen = k.expLen := rfl
@[simp] theorem writeResponse_respTimer (f : List Byte) (l : List Word) (k : CoreState) : (writeResponse f l k).respTimer = k.respTimer := rfl
@[simp] theorem writeResponse_ibTimer (f : List Byte) (l : List Word) (k : CoreState) : (writeResponse f l k).ibTimer = k.ibTimer := rfl
@[simp] theorem writeResponse_mode (f : List Byte) (l : List Word) (k : CoreState) : (writeResponse f l k).mode = k.mode := rfl

/-! ### writeException -/

@[simp] theorem writeException_done (f : List Byte) (c : Byte) (k : CoreState) : (writeException f c k).done = true := rfl
@[simp] theorem writeException_ok (f : List Byte) (c : Byte) (k : CoreState) : (writeException f c k).ok = false := rfl
@[simp] theorem writeException_cmdErr (f : List Byte) (c : Byte) (k : CoreState) : (writeException f c k).cmdErr = k.cmdErr := rfl
@[simp] theorem writeException_err (f : List Byte) (c : Byte) (k : CoreState) : (writeException f c k).err = .deviceException := rfl
@[simp] theorem writeException_lastErr (f : List Byte) (c : Byte) (k : CoreState) : (writeException f c k).lastErr = k.lastErr := rfl
@[simp] theorem writeException_attempts (f : List Byte) (c : Byte) (k : CoreState) : (writeException f c k).attempts = k.attempts := rfl
@[simp] theorem writeException_excCode (f : List Byte) (c : Byte) (k : CoreState) : (writeException f c k).excCode = c := rfl
@[simp] theorem writeException_respTimeout (f : List Byte) (c : Byte) (k : CoreState) : (writeException f c k).respTimeout = k.respTimeout := rfl
@[simp] theorem writeException_ibTimeout (f : List Byte) (c : Byte) (k : CoreState) : (writeException f c k).ibTimeout = k.ibTimeout := rfl
@[simp] theorem writeException_maxRetries (f : List Byte) (c : Byte) (k : CoreState) : (writeException f c k).maxRetries = k.maxRetries := rfl
@[simp] theorem writeException_reqUnit (f : List Byte) (c : Byte) (k : CoreState) : (writeException f c k).reqUnit = k.reqUnit := rfl
@[simp] theorem writeException_reqFc (f : List Byte) (c : Byte) (k : CoreState) : (writeException f c k).reqFc = k.reqFc := rfl
@[simp] theorem writeException_reqAddr (f : List Byte) (c : Byte) (k : CoreState) : (writeException f c k).reqAddr = k.reqAddr := rfl
@[simp] theorem writeException_reqQty (f : List Byte) (c : Byte) (k : CoreState) : (writeException f c k).reqQty = k.reqQty := rfl
@[simp] theorem writeException_respUnit (f : List Byte) (c : Byte) (k : CoreState) : (writeException f c k).respUnit = frameByte f 0 := rfl
@[simp] theorem writeException_respFc (f : List Byte) (c : Byte) (k : CoreState) : (writeException f c k).respFc = frameByte f 1 := rfl
@[simp] theorem writeException_respBc (f : List Byte) (c : Byte) (k : CoreState) : (writeException f c k).respBc = k.respBc := rfl
@[simp] theorem writeException_respNreg (f : List Byte) (c : Byte) (k : CoreState) : (writeException f c k).respNreg = k.respNreg := rfl
@[simp] theorem writeException_txLen (f : List Byte) (c : Byte) (k : CoreState) : (writeException f c k).txLen = k.txLen := rfl
@[simp] theorem writeException_crcAcc (f : List Byte) (c : Byte) (k : CoreState) : (writeException f c k).crcAcc = k.crcAcc := rfl
@[simp] theorem writeException_regs (f : List Byte) (c : Byte) (k : CoreState) : (writeException f c k).regs = k.regs := rfl
@[simp] theorem writeException_txbuf (f : List Byte) (c : Byte) (k : CoreState) : (writeException f c k).txbuf = k.txbuf := rfl
@[simp] theorem writeException_rxbuf (f : List Byte) (c : Byte) (k : CoreState) : (writeException f c k).rxbuf = k.rxbuf := rfl
@[simp] theorem writeException_rxCnt (f : List Byte) (c : Byte) (k : CoreState) : (writeException f c k).rxCnt = 0 := rfl
@[simp] theorem writeException_fsm (f : List Byte) (c : Byte) (k : CoreState) : (writeException f c k).fsm = .idle := rfl
@[simp] theorem writeException_txIdx (f : List Byte) (c : Byte) (k : CoreState) : (writeException f c k).txIdx = k.txIdx := rfl
@[simp] theorem writeException_expLen (f : List Byte) (c : Byte) (k : CoreState) : (writeException f c k).expLen = k.expLen := rfl
@[simp] theorem writeException_respTimer (f : List Byte) (c : Byte) (k : CoreState) : (writeException f c k).respTimer = k.respTimer := rfl
@[simp] theorem writeException_ibTimer (f : List Byte) (c : Byte) (k : CoreState) : (writeException f c k).ibTimer = k.ibTimer := rfl
@[simp] theorem writeException_mode (f : List Byte) (c : Byte) (k : CoreState) : (writeException f c k).mode = k.mode := rfl

/-! ### rejectRequest -/

@[simp] theorem rejectRequest_done (k : CoreState) : (rejectRequest k).done = true := rfl
@[simp] theorem rejectRequest_ok (k : CoreState) : (rejectRequest k).ok = false := rfl
@[simp] theorem rejectRequest_cmdErr (k : CoreState) : (rejectRequest k).cmdErr = k.cmdErr := rfl
@[simp] theorem rejectRequest_err (k : CoreState) : (rejectRequest k).err = .invalidRequest := rfl
@[simp] theorem rejectRequest_lastErr (k : CoreState) : (rejectRequest k).lastErr = k.lastErr := rfl
@[simp] theorem rejectRequest_attempts (k : CoreState) : (rejectRequest k).attempts = k.attempts := rfl
@[simp] theorem rejectRequest_excCode (k : CoreState) : (rejectRequest k).excCode = k.excCode := rfl
@[simp] theorem rejectRequest_respTimeout (k : CoreState) : (rejectRequest k).respTimeout = k.respTimeout := rfl
@[simp] theorem rejectRequest_ibTimeout (k : CoreState) : (rejectRequest k).ibTimeout = k.ibTimeout := rfl
@[simp] theorem rejectRequest_maxRetries (k : CoreState) : (rejectRequest k).maxRetries = k.maxRetries := rfl
@[simp] theorem rejectRequest_reqUnit (k : CoreState) : (rejectRequest k).reqUnit = k.reqUnit := rfl
@[simp] theorem rejectRequest_reqFc (k : CoreState) : (rejectRequest k).reqFc = k.reqFc := rfl
@[simp] theorem rejectRequest_reqAddr (k : CoreState) : (rejectRequest k).reqAddr = k.reqAddr := rfl
@[simp] theorem rejectRequest_reqQty (k : CoreState) : (rejectRequest k).reqQty = k.reqQty := rfl
@[simp] theorem rejectRequest_respUnit (k : CoreState) : (rejectRequest k).respUnit = k.respUnit := rfl
@[simp] theorem rejectRequest_respFc (k : CoreState) : (rejectRequest k).respFc = k.respFc := rfl
@[simp] theorem rejectRequest_respBc (k : CoreState) : (rejectRequest k).respBc = k.respBc := rfl
@[simp] theorem rejectRequest_respNreg (k : CoreState) : (rejectRequest k).respNreg = k.respNreg := rfl
@[simp] theorem rejectRequest_txLen (k : CoreState) : (rejectRequest k).txLen = 0 := rfl
@[simp] theorem rejectRequest_crcAcc (k : CoreState) : (rejectRequest k).crcAcc = k.crcAcc := rfl
@[simp] theorem rejectRequest_regs (k : CoreState) : (rejectRequest k).regs = k.regs := rfl
@[simp] theorem rejectRequest_txbuf (k : CoreState) : (rejectRequest k).txbuf = k.txbuf := rfl
@[simp] theorem rejectRequest_rxbuf (k : CoreState) : (rejectRequest k).rxbuf = k.rxbuf := rfl
@[simp] theorem rejectRequest_rxCnt (k : CoreState) : (rejectRequest k).rxCnt = 0 := rfl
@[simp] theorem rejectRequest_fsm (k : CoreState) : (rejectRequest k).fsm = .idle := rfl
@[simp] theorem rejectRequest_txIdx (k : CoreState) : (rejectRequest k).txIdx = k.txIdx := rfl
@[simp] theorem rejectRequest_expLen (k : CoreState) : (rejectRequest k).expLen = k.expLen := rfl
@[simp] theorem rejectRequest_respTimer (k : CoreState) : (rejectRequest k).respTimer = k.respTimer := rfl
@[simp] theorem rejectRequest_ibTimer (k : CoreState) : (rejectRequest k).ibTimer = k.ibTimer := rfl
@[simp] theorem rejectRequest_mode (k : CoreState) : (rejectRequest k).mode = k.mode := rfl

/-! ### refuse -/

@[simp] theorem refuse_done (k : CoreState) : (refuse k).done = k.done := rfl
@[simp] theorem refuse_ok (k : CoreState) : (refuse k).ok = k.ok := rfl
@[simp] theorem refuse_cmdErr (k : CoreState) : (refuse k).cmdErr = true := rfl
@[simp] theorem refuse_err (k : CoreState) : (refuse k).err = k.err := rfl
@[simp] theorem refuse_lastErr (k : CoreState) : (refuse k).lastErr = k.lastErr := rfl
@[simp] theorem refuse_attempts (k : CoreState) : (refuse k).attempts = k.attempts := rfl
@[simp] theorem refuse_excCode (k : CoreState) : (refuse k).excCode = k.excCode := rfl
@[simp] theorem refuse_respTimeout (k : CoreState) : (refuse k).respTimeout = k.respTimeout := rfl
@[simp] theorem refuse_ibTimeout (k : CoreState) : (refuse k).ibTimeout = k.ibTimeout := rfl
@[simp] theorem refuse_maxRetries (k : CoreState) : (refuse k).maxRetries = k.maxRetries := rfl
@[simp] theorem refuse_reqUnit (k : CoreState) : (refuse k).reqUnit = k.reqUnit := rfl
@[simp] theorem refuse_reqFc (k : CoreState) : (refuse k).reqFc = k.reqFc := rfl
@[simp] theorem refuse_reqAddr (k : CoreState) : (refuse k).reqAddr = k.reqAddr := rfl
@[simp] theorem refuse_reqQty (k : CoreState) : (refuse k).reqQty = k.reqQty := rfl
@[simp] theorem refuse_respUnit (k : CoreState) : (refuse k).respUnit = k.respUnit := rfl
@[simp] theorem refuse_respFc (k : CoreState) : (refuse k).respFc = k.respFc := rfl
@[simp] theorem refuse_respBc (k : CoreState) : (refuse k).respBc = k.respBc := rfl
@[simp] theorem refuse_respNreg (k : CoreState) : (refuse k).respNreg = k.respNreg := rfl
@[simp] theorem refuse_txLen (k : CoreState) : (refuse k).txLen = k.txLen := rfl
@[simp] theorem refuse_crcAcc (k : CoreState) : (refuse k).crcAcc = k.crcAcc := rfl
@[simp] theorem refuse_regs (k : CoreState) : (refuse k).regs = k.regs := rfl
@[simp] theorem refuse_txbuf (k : CoreState) : (refuse k).txbuf = k.txbuf := rfl
@[simp] theorem refuse_rxbuf (k : CoreState) : (refuse k).rxbuf = k.rxbuf := rfl
@[simp] theorem refuse_rxCnt (k : CoreState) : (refuse k).rxCnt = k.rxCnt := rfl
@[simp] theorem refuse_fsm (k : CoreState) : (refuse k).fsm = k.fsm := rfl
@[simp] theorem refuse_txIdx (k : CoreState) : (refuse k).txIdx = k.txIdx := rfl
@[simp] theorem refuse_expLen (k : CoreState) : (refuse k).expLen = k.expLen := rfl
@[simp] theorem refuse_respTimer (k : CoreState) : (refuse k).respTimer = k.respTimer := rfl
@[simp] theorem refuse_ibTimer (k : CoreState) : (refuse k).ibTimer = k.ibTimer := rfl
@[simp] theorem refuse_mode (k : CoreState) : (refuse k).mode = k.mode := rfl

/-! ### clearFlags -/

@[simp] theorem clearFlags_done (k : CoreState) : (clearFlags k).done = false := rfl
@[simp] theorem clearFlags_ok (k : CoreState) : (clearFlags k).ok = false := rfl
@[simp] theorem clearFlags_cmdErr (k : CoreState) : (clearFlags k).cmdErr = false := rfl
@[simp] theorem clearFlags_err (k : CoreState) : (clearFlags k).err = k.err := rfl
@[simp] theorem clearFlags_lastErr (k : CoreState) : (clearFlags k).lastErr = k.lastErr := rfl
@[simp] theorem clearFlags_attempts (k : CoreState) : (clearFlags k).attempts = k.attempts := rfl
@[simp] theorem clearFlags_excCode (k : CoreState) : (clearFlags k).excCode = k.excCode := rfl
@[simp] theorem clearFlags_respTimeout (k : CoreState) : (clearFlags k).respTimeout = k.respTimeout := rfl
@[simp] theorem clearFlags_ibTimeout (k : CoreState) : (clearFlags k).ibTimeout = k.ibTimeout := rfl
@[simp] theorem clearFlags_maxRetries (k : CoreState) : (clearFlags k).maxRetries = k.maxRetries := rfl
@[simp] theorem clearFlags_reqUnit (k : CoreState) : (clearFlags k).reqUnit = k.reqUnit := rfl
@[simp] theorem clearFlags_reqFc (k : CoreState) : (clearFlags k).reqFc = k.reqFc := rfl
@[simp] theorem clearFlags_reqAddr (k : CoreState) : (clearFlags k).reqAddr = k.reqAddr := rfl
@[simp] theorem clearFlags_reqQty (k : CoreState) : (clearFlags k).reqQty = k.reqQty := rfl
@[simp] theorem clearFlags_respUnit (k : CoreState) : (clearFlags k).respUnit = k.respUnit := rfl
@[simp] theorem clearFlags_respFc (k : CoreState) : (clearFlags k).respFc = k.respFc := rfl
@[simp] theorem clearFlags_respBc (k : CoreState) : (clearFlags k).respBc = k.respBc := rfl
@[simp] theorem clearFlags_respNreg (k : CoreState) : (clearFlags k).respNreg = k.respNreg := rfl
@[simp] theorem clearFlags_txLen (k : CoreState) : (clearFlags k).txLen = k.txLen := rfl
@[simp] theorem clearFlags_crcAcc (k : CoreState) : (clearFlags k).crcAcc = k.crcAcc := rfl
@[simp] theorem clearFlags_regs (k : CoreState) : (clearFlags k).regs = k.regs := rfl
@[simp] theorem clearFlags_txbuf (k : CoreState) : (clearFlags k).txbuf = k.txbuf := rfl
@[simp] theorem clearFlags_rxbuf (k : CoreState) : (clearFlags k).rxbuf = k.rxbuf := rfl
@[simp] theorem clearFlags_rxCnt (k : CoreState) : (clearFlags k).rxCnt = k.rxCnt := rfl
@[simp] theorem clearFlags_fsm (k : CoreState) : (clearFlags k).fsm = k.fsm := rfl
@[simp] theorem clearFlags_txIdx (k : CoreState) : (clearFlags k).txIdx = k.txIdx := rfl
@[simp] theorem clearFlags_expLen (k : CoreState) : (clearFlags k).expLen = k.expLen := rfl
@[simp] theorem clearFlags_respTimer (k : CoreState) : (clearFlags k).respTimer = k.respTimer := rfl
@[simp] theorem clearFlags_ibTimer (k : CoreState) : (clearFlags k).ibTimer = k.ibTimer := rfl
@[simp] theorem clearFlags_mode (k : CoreState) : (clearFlags k).mode = k.mode := rfl

/-! ### loadRequest -/

@[simp] theorem loadRequest_done (k : CoreState) : (loadRequest k).done = k.done := rfl
@[simp] theorem loadRequest_ok (k : CoreState) : (loadRequest k).ok = k.ok := rfl
@[simp] theorem loadRequest_cmdErr (k : CoreState) : (loadRequest k).cmdErr = k.cmdErr := rfl
@[simp] theorem loadRequest_err (k : CoreState) : (loadRequest k).err = k.err := rfl
@[simp] theorem loadRequest_lastErr (k : CoreState) : (loadRequest k).lastErr = k.lastErr := rfl
@[simp] theorem loadRequest_attempts (k : CoreState) : (loadRequest k).attempts = k.attempts := rfl
@[simp] theorem loadRequest_excCode (k : CoreState) : (loadRequest k).excCode = k.excCode := rfl
@[simp] theorem loadRequest_respTimeout (k : CoreState) : (loadRequest k).respTimeout = k.respTimeout := rfl
@[simp] theorem loadRequest_ibTimeout (k : CoreState) : (loadRequest k).ibTimeout = k.ibTimeout := rfl
@[simp] theorem loadRequest_maxRetries (k : CoreState) : (loadRequest k).maxRetries = k.maxRetries := rfl
@[simp] theorem loadRequest_reqUnit (k : CoreState) : (loadRequest k).reqUnit = k.reqUnit := rfl
@[simp] theorem loadRequest_reqFc (k : CoreState) : (loadRequest k).reqFc = k.reqFc := rfl
@[simp] theorem loadRequest_reqAddr (k : CoreState) : (loadRequest k).reqAddr = k.reqAddr := rfl
@[simp] theorem loadRequest_reqQty (k : CoreState) : (loadRequest k).reqQty = k.reqQty := rfl
@[simp] theorem loadRequest_respUnit (k : CoreState) : (loadRequest k).respUnit = k.respUnit := rfl
@[simp] theorem loadRequest_respFc (k : CoreState) : (loadRequest k).respFc = k.respFc := rfl
@[simp] theorem loadRequest_respBc (k : CoreState) : (loadRequest k).respBc = k.respBc := rfl
@[simp] theorem loadRequest_respNreg (k : CoreState) : (loadRequest k).respNreg = k.respNreg := rfl
@[simp] theorem loadRequest_txLen (k : CoreState) : (loadRequest k).txLen = 8 := rfl
@[simp] theorem loadRequest_crcAcc (k : CoreState) : (loadRequest k).crcAcc = k.crcAcc := rfl
@[simp] theorem loadRequest_regs (k : CoreState) : (loadRequest k).regs = k.regs := rfl
@[simp] theorem loadRequest_txbuf (k : CoreState) : (loadRequest k).txbuf = requestFrame k := rfl
@[simp] theorem loadRequest_rxbuf (k : CoreState) : (loadRequest k).rxbuf = k.rxbuf := rfl
@[simp] theorem loadRequest_rxCnt (k : CoreState) : (loadRequest k).rxCnt = k.rxCnt := rfl
@[simp] theorem loadRequest_fsm (k : CoreState) : (loadRequest k).fsm = k.fsm := rfl
@[simp] theorem loadRequest_txIdx (k : CoreState) : (loadRequest k).txIdx = k.txIdx := rfl
@[simp] theorem loadRequest_expLen (k : CoreState) : (loadRequest k).expLen = k.expLen := rfl
@[simp] theorem loadRequest_respTimer (k : CoreState) : (loadRequest k).respTimer = k.respTimer := rfl
@[simp] theorem loadRequest_ibTimer (k : CoreState) : (loadRequest k).ibTimer = k.ibTimer := rfl
@[simp] theorem loadRequest_mode (k : CoreState) : (loadRequest k).mode = k.mode := rfl

/-! ### takeByte -/

@[simp] theorem takeByte_done (b : Byte) (k : CoreState) : (takeByte b k).done = k.done := rfl
@[simp] theorem takeByte_ok (b : Byte) (k : CoreState) : (takeByte b k).ok = k.ok := rfl
@[simp] theorem takeByte_cmdErr (b : Byte) (k : CoreState) : (takeByte b k).cmdErr = k.cmdErr := rfl
@[simp] theorem takeByte_err (b : Byte) (k : CoreState) : (takeByte b k).err = k.err := rfl
@[simp] theorem takeByte_lastErr (b : Byte) (k : CoreState) : (takeByte b k).lastErr = k.lastErr := rfl
@[simp] theorem takeByte_attempts (b : Byte) (k : CoreState) : (takeByte b k).attempts = k.attempts := rfl
@[simp] theorem takeByte_excCode (b : Byte) (k : CoreState) : (takeByte b k).excCode = k.excCode := rfl
@[simp] theorem takeByte_respTimeout (b : Byte) (k : CoreState) : (takeByte b k).respTimeout = k.respTimeout := rfl
@[simp] theorem takeByte_ibTimeout (b : Byte) (k : CoreState) : (takeByte b k).ibTimeout = k.ibTimeout := rfl
@[simp] theorem takeByte_maxRetries (b : Byte) (k : CoreState) : (takeByte b k).maxRetries = k.maxRetries := rfl
@[simp] theorem takeByte_reqUnit (b : Byte) (k : CoreState) : (takeByte b k).reqUnit = k.reqUnit := rfl
@[simp] theorem takeByte_reqFc (b : Byte) (k : CoreState) : (takeByte b k).reqFc = k.reqFc := rfl
@[simp] theorem takeByte_reqAddr (b : Byte) (k : CoreState) : (takeByte b k).reqAddr = k.reqAddr := rfl
@[simp] theorem takeByte_reqQty (b : Byte) (k : CoreState) : (takeByte b k).reqQty = k.reqQty := rfl
@[simp] theorem takeByte_respUnit (b : Byte) (k : CoreState) : (takeByte b k).respUnit = k.respUnit := rfl
@[simp] theorem takeByte_respFc (b : Byte) (k : CoreState) : (takeByte b k).respFc = k.respFc := rfl
@[simp] theorem takeByte_respBc (b : Byte) (k : CoreState) : (takeByte b k).respBc = k.respBc := rfl
@[simp] theorem takeByte_respNreg (b : Byte) (k : CoreState) : (takeByte b k).respNreg = k.respNreg := rfl
@[simp] theorem takeByte_txLen (b : Byte) (k : CoreState) : (takeByte b k).txLen = k.txLen := rfl
@[simp] theorem takeByte_crcAcc (b : Byte) (k : CoreState) : (takeByte b k).crcAcc = k.crcAcc := rfl
@[simp] theorem takeByte_regs (b : Byte) (k : CoreState) : (takeByte b k).regs = k.regs := rfl
@[simp] theorem takeByte_txbuf (b : Byte) (k : CoreState) : (takeByte b k).txbuf = k.txbuf := rfl
@[simp] theorem takeByte_rxbuf (b : Byte) (k : CoreState) : (takeByte b k).rxbuf = k.rxbuf.setIfInBounds k.rxCnt.toNat b := rfl
@[simp] theorem takeByte_rxCnt (b : Byte) (k : CoreState) : (takeByte b k).rxCnt = k.rxCnt + 1 := rfl
@[simp] theorem takeByte_fsm (b : Byte) (k : CoreState) : (takeByte b k).fsm = k.fsm := rfl
@[simp] theorem takeByte_txIdx (b : Byte) (k : CoreState) : (takeByte b k).txIdx = k.txIdx := rfl
@[simp] theorem takeByte_expLen (b : Byte) (k : CoreState) : (takeByte b k).expLen = k.expLen := rfl
@[simp] theorem takeByte_respTimer (b : Byte) (k : CoreState) : (takeByte b k).respTimer = k.respTimer := rfl
@[simp] theorem takeByte_ibTimer (b : Byte) (k : CoreState) : (takeByte b k).ibTimer = 0 := rfl
@[simp] theorem takeByte_mode (b : Byte) (k : CoreState) : (takeByte b k).mode = k.mode := rfl

end Sys2Proof.Machine
end

