-- ==== Sys2Proof/Laws/Ops.lean ====
section
/-! SUPPORT. For each shared operation, what it can do, said once. -/

namespace Sys2Proof.Machine

/-! ### BUSY, tx_valid and the gate of the commands -/

theorem busy_iff (k : CoreState) : busy k = true ↔ k.fsm ≠ .idle := by
  unfold busy; cases k.fsm <;> simp

theorem busy_eq_false_iff (k : CoreState) : busy k = false ↔ k.fsm = .idle := by
  unfold busy; cases k.fsm <;> simp

theorem txValid_iff (k : CoreState) : txValid k = true ↔ k.fsm = .tx := by
  unfold txValid; cases k.fsm <;> simp

theorem txValid_eq_false_iff (k : CoreState) : txValid k = false ↔ k.fsm ≠ .tx := by
  unfold txValid; cases k.fsm <;> simp

theorem whenIdle_of_idle (act : CoreState → CoreState) (k : CoreState) (h : k.fsm = .idle) : whenIdle act k = act k := by
  simp [whenIdle, (busy_eq_false_iff k).2 h]

theorem whenIdle_of_busy (act : CoreState → CoreState) (k : CoreState) (h : k.fsm ≠ .idle) :
    whenIdle act k = refuse k := by
  simp [whenIdle, (busy_iff k).2 h]

/-- Everything the gate of a command can do. -/
theorem whenIdle_cases (act : CoreState → CoreState) (k : CoreState) :
    (k.fsm = .idle ∧ whenIdle act k = act k) ∨ (k.fsm ≠ .idle ∧ whenIdle act k = refuse k) := by
  by_cases h : k.fsm = .idle
  · exact .inl ⟨h, whenIdle_of_idle act k h⟩
  · exact .inr ⟨h, whenIdle_of_busy act k h⟩

/-! ### Validation of a request -/

theorem requestOk_iff (k : CoreState) :
    requestOk k = true ↔ validRequest k.reqUnit k.reqFc k.reqAddr k.reqQty = true := Iff.rfl

/-- Only the request registers matter to `requestOk`. -/
theorem requestOk_congr (k l : CoreState) (hu : k.reqUnit = l.reqUnit) (hf : k.reqFc = l.reqFc)
    (ha : k.reqAddr = l.reqAddr) (hq : k.reqQty = l.reqQty) : requestOk k = requestOk l := by
  simp only [requestOk, hu, hf, ha, hq]

/-! ### Accepted commands -/

/-- Everything an accepted ENCODE can do. -/
theorem doEncode_cases (k : CoreState) :
    (requestOk k = true ∧ doEncode k = complete true .none (loadRequest (clearResults k)))
      ∨ (requestOk k = false ∧ doEncode k = rejectRequest (clearResults k)) := by
  cases h : requestOk k <;> simp [doEncode, h]

/-- Everything an accepted DECODE can do. -/
theorem doDecode_cases (k : CoreState) :
    (requestOk k = true ∧ doDecode k = startDecode (clearResults k))
      ∨ (requestOk k = false ∧ doDecode k = complete false .invalidRequest (clearResults k)) := by
  cases h : requestOk k
  · exact .inr ⟨rfl, by simp [doDecode, h]; rfl⟩
  · exact .inl ⟨rfl, by simp [doDecode, h]⟩

/-- Everything an accepted EXECUTE can do. -/
theorem doExecute_cases (k : CoreState) :
    (requestOk k = true ∧ doExecute k = startExecute (loadRequest (clearResults k)))
      ∨ (requestOk k = false ∧ doExecute k = rejectRequest (clearResults k)) := by
  cases h : requestOk k <;> simp [doExecute, h]

/-! ### Host writes -/

/-- A store changes no state outside the seven read-write registers. -/
theorem storeRegister_frame (a : Byte) (v : Word) (k : CoreState) :
    storeRegister a v k = { k with
      respTimeout := (storeRegister a v k).respTimeout, ibTimeout := (storeRegister a v k).ibTimeout
      maxRetries := (storeRegister a v k).maxRetries, reqUnit := (storeRegister a v k).reqUnit
      reqFc := (storeRegister a v k).reqFc, reqAddr := (storeRegister a v k).reqAddr
      reqQty := (storeRegister a v k).reqQty } := by
  unfold storeRegister
  split <;> rfl

/-- Everything a host write to a register without a command's effect can do. -/
theorem hostWriteRegister_cases (a : Byte) (v : Word) (k : CoreState) :
    (0x06 ≤ a.toNat ∧ a.toNat ≤ 0x0C ∧ k.fsm = .idle ∧ hostWriteRegister a v k = storeRegister a v k)
      ∨ (0x06 ≤ a.toNat ∧ a.toNat ≤ 0x0C ∧ k.fsm ≠ .idle ∧ hostWriteRegister a v k = refuse k)
      ∨ (¬(0x06 ≤ a.toNat ∧ a.toNat ≤ 0x0C) ∧ hostWriteRegister a v k = k) := by
  unfold hostWriteRegister
  split
  · rename_i h
    split
    · rename_i hb
      exact .inr (.inl ⟨h.1, h.2, (busy_iff k).1 hb, rfl⟩)
    · rename_i hb
      exact .inl ⟨h.1, h.2, (busy_eq_false_iff k).1 (by simpa using hb), rfl⟩
  · rename_i h
    exact .inr (.inr ⟨h, rfl⟩)

/-! ### Errors -/

theorem mode_cases (k : CoreState) : k.mode = .execute ∨ k.mode = .decode := by
  cases k.mode <;> simp

theorem fail_of_decode (e : ErrKind) (k : CoreState) (h : k.mode = .decode) :
    fail e k = complete false e (discardFrame e k) := by
  simp [fail, h]

theorem fail_of_retry (e : ErrKind) (k : CoreState) (h : k.mode = .execute)
    (hr : k.attempts.toNat ≤ k.maxRetries.toNat) : fail e k = retryAttempt (discardFrame e k) := by
  simp [fail, h, hr]

theorem fail_of_spent (e : ErrKind) (k : CoreState) (h : k.mode = .execute)
    (hr : ¬k.attempts.toNat ≤ k.maxRetries.toNat) :
    fail e k = complete false .transactionFailed (discardFrame e k) := by
  simp [fail, h, hr]

theorem raise_of_retryable (e : ErrKind) (k : CoreState) (h : retryable e = true) : raise e k = fail e k := by
  simp [raise, h]

theorem raise_of_terminal (e : ErrKind) (k : CoreState) (h : retryable e = false) :
    raise e k = complete false e k := by
  simp [raise, h]

/-- Everything `raise` can do: end the command with the error itself, start the next attempt, or end with
TransactionFailed. -/
theorem raise_cases (e : ErrKind) (k : CoreState) :
    (retryable e = false ∧ raise e k = complete false e k)
      ∨ (retryable e = true ∧ k.mode = .decode ∧ raise e k = complete false e (discardFrame e k))
      ∨ (retryable e = true ∧ k.mode = .execute ∧ k.attempts.toNat ≤ k.maxRetries.toNat
        ∧ raise e k = retryAttempt (discardFrame e k))
      ∨ (retryable e = true ∧ k.mode = .execute ∧ ¬k.attempts.toNat ≤ k.maxRetries.toNat
        ∧ raise e k = complete false .transactionFailed (discardFrame e k)) := by
  cases h : retryable e
  · exact .inl ⟨rfl, raise_of_terminal e k h⟩
  · rw [raise_of_retryable e k h]
    rcases mode_cases k with hm | hm
    · by_cases hr : k.attempts.toNat ≤ k.maxRetries.toNat
      · exact .inr (.inr (.inl ⟨rfl, hm, hr, fail_of_retry e k hm hr⟩))
      · exact .inr (.inr (.inr ⟨rfl, hm, hr, fail_of_spent e k hm hr⟩))
    · exact .inr (.inl ⟨rfl, hm, fail_of_decode e k hm⟩)

/-- After `raise` the machine is in IDLE or sends again. -/
theorem raise_fsm (e : ErrKind) (k : CoreState) : (raise e k).fsm = .idle ∨ (raise e k).fsm = .tx := by
  rcases raise_cases e k with ⟨-, h⟩ | ⟨-, -, h⟩ | ⟨-, -, -, h⟩ | ⟨-, -, -, h⟩ <;> simp [h]

/-! ### The frame's end -/

/-- What `validate` answers when it answers an error. -/
theorem validate_error (f : List Byte) (unit fc qty : Word) (e : ErrKind) (h : validate f unit fc qty = .error e) :
    e = .frameTooShort ∨ e = .crcMismatch ∨ e = .unitIdMismatch ∨ e = .malformedResponse := by
  unfold validate at h
  repeat' split at h
  all_goals first | (cases h; simp) | cases h

theorem validate_error_retryable (f : List Byte) (unit fc qty : Word) (e : ErrKind)
    (h : validate f unit fc qty = .error e) : retryable e = true := by
  rcases validate_error f unit fc qty e h with rfl | rfl | rfl | rfl <;> rfl

/-- What a frame that `validate` accepts is like. -/
theorem validate_ok (f : List Byte) (unit fc qty : Word) (regs : List Word) (h : validate f unit fc qty = .ok regs) :
    crc16 (f.take (f.length - 2)) = receivedCrc f ∧ frameByte f 0 = loByte unit ∧ frameByte f 1 = loByte fc
      ∧ f.length = rspLen qty.toNat ∧ (frameByte f 2).toNat = 2 * qty.toNat ∧ regs = extractRegs f qty.toNat := by
  unfold validate at h
  repeat' split at h
  all_goals cases h
  simp_all

/-- What a frame that `validate` takes for an exception response is like. -/
theorem validate_deviceException (f : List Byte) (unit fc qty : Word) (code : Byte)
    (h : validate f unit fc qty = .deviceException code) :
    crc16 (f.take (f.length - 2)) = receivedCrc f ∧ (frameByte f 1).getLsbD 7 = true ∧ f.length = excLen
      ∧ code = frameByte f 2 := by
  unfold validate at h
  repeat' split at h
  all_goals cases h
  simp_all

@[simp] theorem extractRegs_length (f : List Byte) (qty : Nat) : (extractRegs f qty).length = qty := by
  simp [extractRegs]

theorem frameEnd_ok (k : CoreState) (regs : List Word)
    (h : validate (collectedFrame k) k.reqUnit k.reqFc k.reqQty = .ok regs) :
    frameEnd k = writeResponse (collectedFrame k) regs k := by
  simp [frameEnd, h]

theorem frameEnd_deviceException (k : CoreState) (code : Byte)
    (h : validate (collectedFrame k) k.reqUnit k.reqFc k.reqQty = .deviceException code) :
    frameEnd k = writeException (collectedFrame k) code k := by
  simp [frameEnd, h]

theorem frameEnd_error (k : CoreState) (e : ErrKind)
    (h : validate (collectedFrame k) k.reqUnit k.reqFc k.reqQty = .error e) : frameEnd k = raise e k := by
  simp [frameEnd, h]

/-- Everything `frameEnd` can do. -/
theorem frameEnd_cases (k : CoreState) :
    (∃ regs, validate (collectedFrame k) k.reqUnit k.reqFc k.reqQty = .ok regs
        ∧ frameEnd k = writeResponse (collectedFrame k) regs k)
      ∨ (∃ code, validate (collectedFrame k) k.reqUnit k.reqFc k.reqQty = .deviceException code
        ∧ frameEnd k = writeException (collectedFrame k) code k)
      ∨ ∃ e, retryable e = true ∧ validate (collectedFrame k) k.reqUnit k.reqFc k.reqQty = .error e
        ∧ frameEnd k = raise e k := by
  cases h : validate (collectedFrame k) k.reqUnit k.reqFc k.reqQty with
  | ok regs => exact .inl ⟨regs, rfl, frameEnd_ok k regs h⟩
  | deviceException code => exact .inr (.inl ⟨code, rfl, frameEnd_deviceException k code h⟩)
  | error e => exact .inr (.inr ⟨e, validate_error_retryable _ _ _ _ e h, rfl, frameEnd_error k e h⟩)

/-- A frame's end leaves RECV. -/
theorem frameEnd_fsm (k : CoreState) : (frameEnd k).fsm = .idle ∨ (frameEnd k).fsm = .tx := by
  rcases frameEnd_cases k with ⟨regs, -, h⟩ | ⟨code, -, h⟩ | ⟨e, -, -, h⟩ <;> rw [h]
  · exact .inl rfl
  · exact raise_fsm _ _
  · exact raise_fsm _ _

/-- An entry of REGS after a response of `l` registers. -/
theorem storeRegs_get (v : Vector Word 125) (l : List Word) (i : Fin 125) :
    (storeRegs v l)[i] = l.getD i v[i] := by
  simp [storeRegs]

end Sys2Proof.Machine
end

