-- ==== Sys2Proof/Laws/Events.lean ====
section
/-! SUPPORT. The events of the streams and of time: what each does in each state of fsm (R238), and what none of them
touches. -/

namespace Sys2Proof.Machine

/-! ### Event by state -/

theorem rxByteEvent_idle (b : Byte) (k : CoreState) (h : k.fsm = .idle) : rxByteEvent b k = k := by
  simp [rxByteEvent, h]

theorem rxByteEvent_tx (b : Byte) (k : CoreState) (h : k.fsm = .tx) : rxByteEvent b k = k := by
  simp [rxByteEvent, h]

theorem rxByteEvent_wait (b : Byte) (k : CoreState) (h : k.fsm = .wait) :
    rxByteEvent b k = takeFirstByte b k := by
  simp [rxByteEvent, h]

theorem rxByteEvent_recv (b : Byte) (k : CoreState) (h : k.fsm = .recv) :
    rxByteEvent b k = if k.rxCnt + 1 = k.expLen then frameEnd (takeByte b k) else takeByte b k := by
  unfold rxByteEvent; rw [h]; rfl

/-- A byte taken inside the buffer. -/
theorem takeByte_of_lt (b : Byte) (k : CoreState) (h : k.rxCnt.toNat < 255) :
    takeByte b k = { k with rxbuf := k.rxbuf.set k.rxCnt.toNat b h, rxCnt := k.rxCnt + 1, ibTimer := 0 } := by
  simp [takeByte, Vector.setIfInBounds, Vector.set, Array.setIfInBounds, h]

theorem tickEvent_idle (k : CoreState) (h : k.fsm = .idle) : tickEvent k = k := by
  simp [tickEvent, h]

theorem tickEvent_tx (k : CoreState) (h : k.fsm = .tx) : tickEvent k = k := by
  simp [tickEvent, h]

theorem tickEvent_wait (k : CoreState) (h : k.fsm = .wait) :
    tickEvent k = if expired (k.respTimer + 1) k.respTimeout then raise .timeout (countWait k) else countWait k := by
  unfold tickEvent; rw [h]; rfl

theorem tickEvent_recv (k : CoreState) (h : k.fsm = .recv) :
    tickEvent k =
      if expired (k.ibTimer + 1) k.ibTimeout then frameEnd (countRecv k)
      else if expired (k.respTimer + 1) k.respTimeout then raise .timeout (countRecv k)
      else countRecv k := by
  unfold tickEvent; rw [h]; rfl

theorem txAcceptEvent_of_ne (k : CoreState) (h : k.fsm ≠ .tx) : txAcceptEvent k = k := by
  unfold txAcceptEvent; cases hf : k.fsm <;> simp_all

theorem txAcceptEvent_tx (k : CoreState) (h : k.fsm = .tx) :
    txAcceptEvent k =
      if k.txIdx.toNat < 7 then { k with txIdx := k.txIdx + 1 }
      else openWindow k := by
  simp [txAcceptEvent, h]

theorem acceptByte_of_ne (s : State) (h : s.core.fsm ≠ .tx) : acceptByte s = s := by
  simp [acceptByte, (txValid_eq_false_iff s.core).2 h]

theorem ioErrorEvent_idle (k : CoreState) (h : k.fsm = .idle) : ioErrorEvent k = k := by
  simp [ioErrorEvent, (busy_eq_false_iff k).2 h]

theorem ioErrorEvent_busy (k : CoreState) (h : k.fsm ≠ .idle) : ioErrorEvent k = complete false .ioError k := by
  simp [ioErrorEvent, (busy_iff k).2 h, raise_of_terminal .ioError k rfl]

/-! ### What the events keep -/

/-- The registers that no event of a stream or of time writes: the request and configuration (R55), the CRC port (R146),
the request frame (R41), CMD_ERR (R293), and what is fixed at acceptance (R48, R51). -/
structure Keeps (k l : CoreState) : Prop where
  respTimeout : l.respTimeout = k.respTimeout
  ibTimeout : l.ibTimeout = k.ibTimeout
  maxRetries : l.maxRetries = k.maxRetries
  reqUnit : l.reqUnit = k.reqUnit
  reqFc : l.reqFc = k.reqFc
  reqAddr : l.reqAddr = k.reqAddr
  reqQty : l.reqQty = k.reqQty
  crcAcc : l.crcAcc = k.crcAcc
  txbuf : l.txbuf = k.txbuf
  txLen : l.txLen = k.txLen
  cmdErr : l.cmdErr = k.cmdErr
  expLen : l.expLen = k.expLen
  mode : l.mode = k.mode

theorem Keeps.refl (k : CoreState) : Keeps k k := ⟨rfl, rfl, rfl, rfl, rfl, rfl, rfl, rfl, rfl, rfl, rfl, rfl, rfl⟩

theorem Keeps.trans {k l m : CoreState} (h : Keeps k l) (h' : Keeps l m) : Keeps k m where
  respTimeout := h'.respTimeout.trans h.respTimeout
  ibTimeout := h'.ibTimeout.trans h.ibTimeout
  maxRetries := h'.maxRetries.trans h.maxRetries
  reqUnit := h'.reqUnit.trans h.reqUnit
  reqFc := h'.reqFc.trans h.reqFc
  reqAddr := h'.reqAddr.trans h.reqAddr
  reqQty := h'.reqQty.trans h.reqQty
  crcAcc := h'.crcAcc.trans h.crcAcc
  txbuf := h'.txbuf.trans h.txbuf
  txLen := h'.txLen.trans h.txLen
  cmdErr := h'.cmdErr.trans h.cmdErr
  expLen := h'.expLen.trans h.expLen
  mode := h'.mode.trans h.mode

theorem complete_keeps (b : Bool) (e : ErrKind) (k : CoreState) : Keeps k (complete b e k) := by
  constructor <;> rfl

theorem startAttempt_keeps (k : CoreState) : Keeps k (startAttempt k) := by
  constructor <;> rfl

theorem takeByte_keeps (b : Byte) (k : CoreState) : Keeps k (takeByte b k) := by
  constructor <;> rfl

theorem raise_keeps (e : ErrKind) (k : CoreState) : Keeps k (raise e k) := by
  rcases raise_cases e k with ⟨-, h⟩ | ⟨-, -, h⟩ | ⟨-, -, -, h⟩ | ⟨-, -, -, h⟩ <;> rw [h] <;> constructor <;> rfl

theorem frameEnd_keeps (k : CoreState) : Keeps k (frameEnd k) := by
  rcases frameEnd_cases k with ⟨regs, -, h⟩ | ⟨code, -, h⟩ | ⟨e, -, -, h⟩ <;> rw [h]
  · constructor <;> rfl
  · constructor <;> rfl
  · exact raise_keeps e k

theorem rxByteEvent_keeps (b : Byte) (k : CoreState) : Keeps k (rxByteEvent b k) := by
  unfold rxByteEvent
  split
  · exact .refl k
  · exact .refl k
  · constructor <;> rfl
  · split
    · exact (takeByte_keeps b k).trans (frameEnd_keeps _)
    · exact takeByte_keeps b k

theorem countWait_keeps (k : CoreState) : Keeps k (countWait k) := by
  constructor <;> rfl

theorem countRecv_keeps (k : CoreState) : Keeps k (countRecv k) := by
  constructor <;> rfl

theorem tickEvent_keeps (k : CoreState) : Keeps k (tickEvent k) := by
  unfold tickEvent
  split
  · exact .refl k
  · exact .refl k
  · split
    · exact (countWait_keeps k).trans (raise_keeps _ _)
    · exact countWait_keeps k
  · split
    · exact (countRecv_keeps k).trans (frameEnd_keeps _)
    · split
      · exact (countRecv_keeps k).trans (raise_keeps _ _)
      · exact countRecv_keeps k

theorem txAcceptEvent_keeps (k : CoreState) : Keeps k (txAcceptEvent k) := by
  unfold txAcceptEvent
  split
  · exact .refl k
  · split <;> constructor <;> rfl
  · exact .refl k
  · exact .refl k

theorem ioErrorEvent_keeps (k : CoreState) : Keeps k (ioErrorEvent k) := by
  unfold ioErrorEvent
  split
  · exact raise_keeps _ _
  · exact .refl k

/-- An induction over the bytes of a frame: what every RxByte event keeps, their delivery keeps. -/
theorem deliver_induct {P : CoreState → CoreState → Prop} (hr : ∀ k, P k k) (ht : ∀ k l m, P k l → P l m → P k m)
    (hb : ∀ b k, P k (rxByteEvent b k)) (f : List Byte) : ∀ k, P k (deliver f k) := by
  induction f with
  | nil => exact hr
  | cons b f ih => exact fun k => ht _ _ _ (hb b k) (ih _)

/-- An induction over Ticks: what every Tick keeps, any number of them keeps. -/
theorem ticks_induct {P : CoreState → CoreState → Prop} (hr : ∀ k, P k k) (ht : ∀ k l m, P k l → P l m → P k m)
    (hs : ∀ k, P k (tickEvent k)) : ∀ (n : Nat) (k : CoreState), P k (ticks n k)
  | 0, k => hr k
  | n + 1, k => ht _ _ _ (hs k) (ticks_induct hr ht hs n _)

/-- A whole frame keeps what every RxByte and every Tick keeps. -/
theorem receiveFrame_induct {P : CoreState → CoreState → Prop} (hr : ∀ k, P k k)
    (ht : ∀ k l m, P k l → P l m → P k m) (hb : ∀ b k, P k (rxByteEvent b k)) (hs : ∀ k, P k (tickEvent k))
    (f : List Byte) (k : CoreState) : P k (receiveFrame f k) :=
  ht _ _ _ (deliver_induct hr ht hb f k) (ticks_induct hr ht hs _ _)

theorem receiveFrame_keeps (f : List Byte) (k : CoreState) : Keeps k (receiveFrame f k) :=
  receiveFrame_induct Keeps.refl (fun _ _ _ => Keeps.trans) rxByteEvent_keeps tickEvent_keeps f k

@[simp] theorem deliver_nil (k : CoreState) : deliver [] k = k := rfl

@[simp] theorem deliver_cons (b : Byte) (f : List Byte) (k : CoreState) :
    deliver (b :: f) k = deliver f (rxByteEvent b k) := rfl

theorem deliver_append (f g : List Byte) (k : CoreState) : deliver (f ++ g) k = deliver g (deliver f k) := by
  simp [deliver]

/-- `n` Ticks where a Tick does nothing do nothing. -/
theorem ticks_fixed (n : Nat) (k : CoreState) (h : tickEvent k = k) : ticks n k = k := by
  induction n with
  | zero => rfl
  | succ n ih => rw [ticks, h, ih]

/-- Bytes where a byte does nothing do nothing. -/
theorem deliver_fixed (f : List Byte) (k : CoreState) (h : ∀ b, rxByteEvent b k = k) : deliver f k = k := by
  induction f with
  | nil => rfl
  | cons b f ih => rw [deliver_cons, h, ih]

/-- `n` accepted bytes keep the core's registers of `Keeps`. -/
theorem acceptBytes_keeps (n : Nat) (s : State) : Keeps s.core (acceptBytes n s).core := by
  induction n generalizing s with
  | zero => exact .refl _
  | succ n ih =>
    refine Keeps.trans ?_ (ih _)
    unfold acceptByte
    split
    · exact txAcceptEvent_keeps _
    · exact .refl _

end Sys2Proof.Machine
end

