-- ==== Sys2Proof/Laws/PerInstr.lean ====
section
/-! SUPPORT. Statements for all instructions, one lemma per constructor. -/

namespace Sys2Proof.Laws.EncodedLength

open Sys2Proof Sys2Proof.Machine

/-- How many bytes the format of an instruction has on its port (R100, R111, R121): 8 for a request, 5 + 2·q for a success
response of q registers, 5 for an exception response, 3 for a host write, 2 for a strobe vector with `rx_data`. -/
def formatLength : Instr → Nat
  | .reqRhr _ _ _ _ => reqLen
  | .rspRhr _ _ regs _ => rspLen regs.length
  | .rspExc _ _ _ _ => excLen
  | .nop => 3
  | .encode => 3
  | .decode => 3
  | .execute => 3
  | .crcInit => 3
  | .clear => 3
  | .crcData _ => 3
  | .reset => 2
  | .ioErr => 2
  | .rxByte _ => 2
  | .tick => 2
  | .txAccept => 2

/-- An instruction's encoding has the length of its format. -/
def Statement (i : Instr) : Prop := (Sys2Proof.encode i).2.length = formatLength i

theorem reqRhr (unit : Byte) (addr qty crc : Word) : Statement (.reqRhr unit addr qty crc) :=
  reqBytes_length unit addr qty crc

theorem rspRhr (unit byteCount : Byte) (regs : List Word) (crc : Word) :
    Statement (.rspRhr unit byteCount regs crc) :=
  rspBytes_length unit byteCount regs crc

theorem rspExc (unit : Byte) (func : BitVec 7) (code : Byte) (crc : Word) :
    Statement (.rspExc unit func code crc) :=
  excBytes_length unit func code crc

theorem nop : Statement .nop := rfl

theorem encode : Statement .encode := rfl

theorem decode : Statement .decode := rfl

theorem execute : Statement .execute := rfl

theorem crcInit : Statement .crcInit := rfl

theorem clear : Statement .clear := rfl

theorem crcData (v : Word) : Statement (.crcData v) := rfl

theorem reset : Statement .reset := rfl

theorem ioErr : Statement .ioErr := rfl

theorem rxByte (b : Byte) : Statement (.rxByte b) := rfl

theorem tick : Statement .tick := rfl

theorem txAccept : Statement .txAccept := rfl

end Sys2Proof.Laws.EncodedLength
end

