-- ==== Sys2Proof/Laws/Ports.lean ====
section
/-! SUPPORT. The step taken apart: what it fetches, what it runs, what an instruction keeps. -/

namespace Sys2Proof.Machine

/-- Taking the next event touches no state of the core. -/
theorem fetch_core (s : State) : (fetch s).2.core = s.core := by
  unfold fetch
  split
  · rfl
  · split
    · rfl
    · dsimp only
      split <;> rfl

/-- Everything a step can do: take nothing and leave the core, or run one event on an unchanged core. -/
theorem step_cases (s : State) :
    ∃ u : State, u.core = s.core ∧ (step s = .next u ∨ ∃ e, step s = runEvent e u) := by
  have hc := fetch_core s
  unfold step stepOnce
  split
  · rename_i e u hu
    rw [hu] at hc
    exact ⟨u, hc, .inr ⟨e, rfl⟩⟩
  · rename_i u hu
    rw [hu] at hc
    exact ⟨u, hc, .inl rfl⟩

/-- A presented input is what the next step looks at. -/
theorem step_present (x : Input) (s : State) (e : Event) (es : List Event) (h : inputEvents s.core x = e :: es) :
    step (present x s) = runEvent e { s with port := { s.port with
      events := es, txStream := s.port.txStream ++ takenAnyway s.core x } } := by
  simp only [step, stepOnce, fetch, present, h]

/-- Instructions run one list after another. -/
theorem execAll_append (is js : List Instr) (s t : State) (h : execAll is s = .next t) :
    execAll (is ++ js) s = execAll js t := by
  induction is generalizing s with
  | nil => cases h; rfl
  | cons i is ih =>
    simp only [execAll, List.cons_append] at h ⊢
    cases hi : exec i s with
    | next u => rw [hi] at h; exact ih u h
    | fault r => rw [hi] at h; cases h
    | refused r => rw [hi] at h; cases h

theorem runAll_cons (e : Event) (es : List Event) (s t : State) (h : runEvent e s = .next t) :
    runAll (e :: es) s = runAll es t := by
  simp only [runAll, h]

/-- Events run one list after another. -/
theorem runAll_append (es fs : List Event) (s t : State) (h : runAll es s = .next t) :
    runAll (es ++ fs) s = runAll fs t := by
  induction es generalizing s with
  | nil => cases h; rfl
  | cons e es ih =>
    simp only [runAll, List.cons_append] at h ⊢
    cases he : runEvent e s with
    | next u => rw [he] at h; exact ih u h
    | fault r => rw [he] at h; cases h
    | refused r => rw [he] at h; cases h

/-- Instructions are events. -/
theorem runAll_map_instr (is : List Instr) (s : State) : runAll (is.map .instr) s = execAll is s := by
  induction is generalizing s with
  | nil => rfl
  | cons i is ih =>
    simp only [List.map_cons, runAll, execAll, runEvent]
    cases exec i s with
    | next u => exact ih u
    | fault r => rfl
    | refused r => rfl

/-- A TxAccept in TX before the last byte. -/
theorem acceptByte_tx (s : State) (hf : s.core.fsm = .tx) (h : s.core.txIdx.toNat < 7) :
    acceptByte s =
      { core := { s.core with txIdx := s.core.txIdx + 1 }
        port := { s.port with txStream := s.port.txStream ++ [s.core.txbuf.getD s.core.txIdx.toNat 0] } } := by
  simp [acceptByte, txData, (txValid_iff s.core).2 hf, txAcceptEvent_tx _ hf, h]

/-- The TxAccept of the last byte. -/
theorem acceptByte_last (s : State) (hf : s.core.fsm = .tx) (h : ¬s.core.txIdx.toNat < 7) :
    acceptByte s =
      { core := openWindow s.core
        port := { s.port with txStream := s.port.txStream ++ [s.core.txbuf.getD s.core.txIdx.toNat 0] } } := by
  simp [acceptByte, txData, (txValid_iff s.core).2 hf, txAcceptEvent_tx _ hf, h]

/-- The instructions that are no command and no Reset: frames and the other events, and NOP. -/
def isEvent : Instr → Bool
  | .reqRhr _ _ _ _ | .rspRhr _ _ _ _ | .rspExc _ _ _ _ | .nop | .ioErr | .rxByte _ | .tick | .txAccept => true
  | .encode | .decode | .execute | .crcInit | .clear | .crcData _ | .reset => false

/-- What none of the frames and events touches. -/
theorem exec_event_keeps (i : Instr) (s t : State) (hi : isEvent i = true) (h : exec i s = .next t) :
    Keeps s.core t.core := by
  cases i <;> simp only [exec] at h
  case reqRhr =>
    unfold execReqRhr at h
    split at h <;> cases h
    · exact acceptBytes_keeps _ _
    · exact .refl _
  all_goals cases h
  case rspRhr => exact receiveFrame_keeps _ _
  case rspExc => exact receiveFrame_keeps _ _
  case nop => exact .refl _
  case ioErr => exact ioErrorEvent_keeps _
  case rxByte => exact rxByteEvent_keeps _ _
  case tick => exact tickEvent_keeps _
  case txAccept => exact acceptBytes_keeps 1 s
  all_goals simp [isEvent] at hi

end Sys2Proof.Machine
end

