-- ==== Sys2Proof/Tests/Slice0.lean ====
section
/-! SUPPORT. Tests on fixed values, their expected results from the spec's examples and vectors (95_test_vectors.md), and
for each statement with hypotheses a witness that meets them. -/

namespace Sys2Proof.Tests

set_option Elab.async false

open Sys2Proof Sys2Proof.Machine

/-! ### Helpers -/

/-- Whether an outcome is a next state with a property. -/
def nextIs (o : Host.Outcome State Fault Refusal) (p : State → Bool) : Bool :=
  match o with
  | .next t => p t
  | .fault _ => false
  | .refused _ => false

/-- A core alone, nothing at its ports. -/
def alone (k : CoreState) : State := { core := k, port := PortState.initial }

/-- In IDLE, with the request {unit, 0x03, 0x0300, qty}. -/
def requesting (unit qty : Word) : CoreState :=
  { CoreState.reset with
    reqUnit := unit, reqFc := 3, reqAddr := 0x0300, reqQty := qty, respTimeout := 5, ibTimeout := 2, maxRetries := 1 }

/-- In IDLE, with the request of the reference script, {1, 0x03, 0x0300, 1}. -/
def idleCore : CoreState := requesting 1 1

/-- The first attempt of that request's EXECUTE, nothing sent yet (R221). -/
def txCore : CoreState :=
  { idleCore with
    fsm := .tx, attempts := 1, expLen := 7, txLen := 8
    txbuf := #v[0x01, 0x03, 0x03, 0x00, 0x00, 0x01, 0x84, 0x4E] }

/-- The same after the send (R223). -/
def waitCore : CoreState := { txCore with fsm := .wait, txIdx := 8 }

/-- A buffer with bytes stored from an index on. -/
def storeBytes : List Byte → Nat → Vector Byte 255 → Vector Byte 255
  | [], _, v => v
  | b :: bs, i, v => storeBytes bs (i + 1) (v.setIfInBounds i b)

/-- The same with some bytes received. -/
def recvCore (bytes : List Byte) (n : Nat) : CoreState :=
  { waitCore with fsm := .recv, rxbuf := storeBytes bytes 0 CoreState.reset.rxbuf, rxCnt := BitVec.ofNat 8 n }

/-- The response frame of the DECODE example (R181): register 0 is 0x1234. -/
def response : List Byte := [0x01, 0x03, 0x02, 0x12, 0x34, 0xB5, 0x33]

/-- The exception frame of the example (R198). -/
def exception : List Byte := [0x01, 0x83, 0x02, 0xC0, 0xF1]

/-- STATUS of a state. -/
def statusOf (s : State) : Word := hostReadValue 0x01 s.core

/-! ### WellFormed: an ill-formed term for each check -/

theorem test_wf_request : wellFormed (.reqRhr 0x01 0x0300 0x0001 0x4E84) = true := by decide +kernel
theorem test_wf_unit_low : wellFormed (.reqRhr 0x00 0x0300 0x0001 (crc16 [0, 3, 3, 0, 0, 1])) = false := by decide +kernel
theorem test_wf_unit_high : wellFormed (.reqRhr 248 0x0300 0x0001 (crc16 [248, 3, 3, 0, 0, 1])) = false := by decide +kernel
theorem test_wf_qty_low : wellFormed (.reqRhr 0x01 0x0300 0x0000 (crc16 [1, 3, 3, 0, 0, 0])) = false := by decide +kernel
theorem test_wf_qty_high : wellFormed (.reqRhr 0x01 0x0300 126 (crc16 [1, 3, 3, 0, 0, 126])) = false := by decide +kernel
theorem test_wf_crc : wellFormed (.reqRhr 0x01 0x0300 0x0001 0x844E) = false := by decide +kernel
theorem test_wf_no_register : wellFormed (.rspRhr 0x01 0x00 [] 0) = false := by decide +kernel
theorem test_wf_registers : wellFormed (.rspRhr 0x01 0xFA (List.replicate 125 0) 0) = true := by decide +kernel
theorem test_wf_too_many : wellFormed (.rspRhr 0x01 0xFC (List.replicate 126 0) 0) = false := by decide +kernel

/-! ### Decoding: a word written out from the spec's encoding, for every constructor -/

/-- R101: `uuuuuuuu 00000011 aaaaaaaa aaaaaaaa qqqqqqqq qqqqqqqq llllllll hhhhhhhh`; the document's request. -/
theorem test_decode_reqRhr :
    decode .txWire [0b00000001, 0b00000011, 0b00000011, 0b00000000, 0b00000000, 0b00000001, 0b10000100, 0b01001110]
      = .ok (.reqRhr 0x01 0x0300 0x0001 0x4E84) := by decide +kernel
/-- R102: two registers, high bytes first, CRC low byte first. -/
theorem test_decode_rspRhr :
    decode .rxWire [0b00010001, 0b00000011, 0b00000100, 0x12, 0x34, 0xAB, 0xCD, 0x5A, 0xA5]
      = .ok (.rspRhr 0x11 0x04 [0x1234, 0xABCD] 0xA55A) := by decide +kernel
/-- R103: `uuuuuuuu 1fffffff eeeeeeee llllllll hhhhhhhh`. -/
theorem test_decode_rspExc :
    decode .rxWire [0b00000001, 0b10000011, 0b00000010, 0b11000000, 0b11110001] = .ok (.rspExc 0x01 0x03 0x02 0xF1C0) := by
  decide +kernel
theorem test_decode_nop : decode .hostWrite [0x00, 0x00, 0b00000000] = .ok .nop := by decide +kernel
theorem test_decode_encode : decode .hostWrite [0x00, 0x00, 0b00000001] = .ok .encode := by decide +kernel
theorem test_decode_decode : decode .hostWrite [0x00, 0x00, 0b00000010] = .ok .decode := by decide +kernel
theorem test_decode_execute : decode .hostWrite [0x00, 0x00, 0b00000011] = .ok .execute := by decide +kernel
theorem test_decode_crcInit : decode .hostWrite [0x00, 0x00, 0b00000100] = .ok .crcInit := by decide +kernel
theorem test_decode_clear : decode .hostWrite [0x00, 0x00, 0b00000101] = .ok .clear := by decide +kernel
/-- R110: address 0x13, the data high byte first (R121). -/
theorem test_decode_crcData : decode .hostWrite [0b00010011, 0x12, 0x01] = .ok (.crcData 0x1201) := by decide +kernel
theorem test_decode_reset : decode .strobe [0b00010000, 0x00] = .ok .reset := by decide +kernel
theorem test_decode_ioErr : decode .strobe [0b00001000, 0x00] = .ok .ioErr := by decide +kernel
theorem test_decode_rxByte : decode .strobe [0b00000100, 0x5A] = .ok (.rxByte 0x5A) := by decide +kernel
theorem test_decode_tick : decode .strobe [0b00000010, 0x00] = .ok .tick := by decide +kernel
theorem test_decode_txAccept : decode .strobe [0b00000001, 0x00] = .ok .txAccept := by decide +kernel
/-- R111, R322: with every strobe set, Reset alone. -/
theorem test_decode_strobes : decode .strobe [0b00011111, 0x5A] = .ok .reset := by decide +kernel

theorem test_decode_reserved_low : decode .hostWrite [0x00, 0x00, 0x06] = .error .reservedCommand := by decide +kernel
theorem test_decode_reserved_high : decode .hostWrite [0x00, 0xFF, 0xFF] = .error .reservedCommand := by decide +kernel
/-- R108: the whole 16-bit value selects, so 0x0103 is no EXECUTE. -/
theorem test_decode_whole_value : decode .hostWrite [0x00, 0x01, 0x03] = .error .reservedCommand := by decide +kernel
theorem test_decode_register : decode .hostWrite [0x06, 0x00, 0x01] = .error .plainRegister := by decide +kernel
theorem test_decode_no_strobe : decode .strobe [0x00, 0x00] = .error .noStrobe := by decide +kernel
theorem test_decode_not_strobes : decode .strobe [0x20, 0x00] = .error .notStrobes := by decide +kernel
theorem test_decode_request_function : decode .txWire [1, 4, 3, 0, 0, 1, 0, 0] = .error .unknownFunction := by decide +kernel
theorem test_decode_response_function : decode .rxWire [1, 4, 2, 0, 0, 0, 0] = .error .unknownFunction := by decide +kernel
/-- R102: an odd payload is no register list. -/
theorem test_decode_odd : decode .rxWire [1, 3, 2, 0, 0, 0] = .error .wrongLength := by decide +kernel
/-- R103: an exception response has five bytes. -/
theorem test_decode_exception_length : decode .rxWire [1, 0x83, 2, 0, 0, 0] = .error .wrongLength := by decide +kernel

/-- The words of the opcode table, as it numbers them (log 9). -/
theorem test_table_words :
    decodeTableWord 16 0x103 = some (.reqRhr 0 0 0 0) ∧ decodeTableWord 8 0x03 = some (.rspRhr 0 0 [0] 0)
      ∧ decodeTableWord 8 0x80 = some (.rspExc 0 0 0 0) ∧ decodeTableWord 16 0x0003 = some .execute
      ∧ decodeTableWord 8 0x13 = some (.crcData 0) ∧ decodeTableWord 8 0x10 = some .reset
      ∧ decodeTableWord 8 0x04 = some (.rxByte 0) := by decide +kernel

/-- The first step from reset runs the word placed: EXECUTE with no request programmed is InvalidRequest (R221). -/
theorem test_fetch_word :
    nextIs (step (State.reset.withFetchWord 16 0x0003))
      (fun t => t.core.err == .invalidRequest && t.core.done && t.port.inputs == []) = true := by decide +kernel

/-! ### One step of each instruction -/

/-- R140's example. -/
theorem test_crcStep : crcStep 0xFFFF 0x01 = 0x807E := by decide +kernel
/-- R141's example, of the document. -/
theorem test_crc16 : crc16 [0x01, 0x03, 0x03, 0x00, 0x00, 0x01] = 0x4E84 := by decide +kernel

/-- R162: the document's request for six registers. -/
theorem test_encode :
    nextIs (exec .encode (alone (requesting 1 6))) (fun t =>
      statusOf t == 0x0006 && t.core.txLen == 8
        && t.core.txbuf == #v[0x01, 0x03, 0x03, 0x00, 0x00, 0x06, 0xC5, 0x8C]) = true := by decide +kernel
/-- R163's corner case: the largest request. -/
theorem test_encode_largest :
    nextIs (exec .encode (alone { requesting 247 125 with reqAddr := 0xFFFF })) (fun t =>
      t.core.txbuf == #v[0xF7, 0x03, 0xFF, 0xFF, 0x00, 0x7D, 0x91, 0x59]) = true := by decide +kernel
/-- R181's example. -/
theorem test_decode_command :
    nextIs (exec .decode (alone idleCore)) (fun t => statusOf t == 0x0061 && t.core.expLen == 7) = true := by decide +kernel
/-- R181's corner case: an invalid request leaves `mode`. -/
theorem test_decode_invalid :
    nextIs (exec .decode (alone (requesting 1 126))) (fun t =>
      statusOf t == 0x0002 && t.core.err == .invalidRequest && t.core.mode == .execute) = true := by decide +kernel
/-- R221's example. -/
theorem test_execute :
    nextIs (exec .execute (alone (requesting 1 6))) (fun t =>
      statusOf t == 0x0011 && t.core.attempts == 1 && t.core.expLen == 17 && txValid t.core && txData t.core == 0x01)
      = true := by decide +kernel
/-- R233's example: EXECUTE in TX. -/
theorem test_execute_refused :
    nextIs (exec .execute (alone txCore)) (fun t => statusOf t == 0x0019 && t.core.attempts == 1) = true := by decide +kernel
/-- R223's example, as a whole frame. -/
theorem test_reqRhr :
    nextIs (exec (.reqRhr 0x01 0x0300 0x0001 0x4E84) (alone txCore)) (fun t =>
      statusOf t == 0x0021 && t.port.txStream == [0x01, 0x03, 0x03, 0x00, 0x00, 0x01, 0x84, 0x4E]) = true := by decide +kernel
/-- R223: the seventh byte leaves TX on, and is the CRC's low byte. -/
theorem test_txAccept :
    nextIs (exec .txAccept (alone { txCore with txIdx := 6 })) (fun t =>
      t.core.fsm == .tx && t.core.txIdx == 7 && t.port.txStream == [0x84]) = true := by decide +kernel
/-- R223: the eighth byte opens the window and zeroes the timers. -/
theorem test_txAccept_last :
    nextIs (exec .txAccept (alone { txCore with txIdx := 7, respTimer := 9, ibTimer := 9 })) (fun t =>
      t.core.fsm == .wait && t.core.respTimer == 0 && t.core.ibTimer == 0 && t.port.txStream == [0x4E]) = true := by
  decide +kernel
/-- R182's example. -/
theorem test_rxByte_first :
    nextIs (exec (.rxByte 0x01) (alone waitCore)) (fun t =>
      t.core.fsm == .recv && t.core.rxCnt == 1 && t.core.rxbuf[0] == 0x01) = true := by decide +kernel
/-- R183's example: the seventh byte ends the frame in the same step. -/
theorem test_rxByte_last :
    nextIs (exec (.rxByte 0x33) (alone (recvCore response 6))) (fun t =>
      statusOf t == 0x0006 && t.core.regs[0] == 0x1234 && t.core.respNreg == 1 && t.core.respBc == 2) = true := by
  decide +kernel
/-- R181's example: the response to a DECODE. -/
theorem test_rspRhr :
    nextIs (exec (.rspRhr 0x01 0x02 [0x1234] 0x33B5) (alone { waitCore with mode := .decode, attempts := 0 })) (fun t =>
      statusOf t == 0x0046 && t.core.regs[0] == 0x1234 && t.core.attempts == 0) = true := by decide +kernel
/-- R193: a response of another unit fails the attempt, and the next one starts (R227). -/
theorem test_rspRhr_other_unit :
    nextIs (exec (.rspRhr 0x02 0x02 [0x1234] (crc16 [0x02, 0x03, 0x02, 0x12, 0x34])) (alone waitCore)) (fun t =>
      statusOf t == 0x0011 && t.core.lastErr == .unitIdMismatch && t.core.attempts == 2) = true := by decide +kernel
/-- R198's example. -/
theorem test_rspExc :
    nextIs (exec (.rspExc 0x01 0x03 0x02 0xF1C0) (alone { waitCore with expLen := 17 })) (fun t =>
      statusOf t == 0x0002 && t.core.err == .deviceException && t.core.excCode == 0x02 && t.core.respUnit == 0x01
        && t.core.respFc == 0x83 && t.core.attempts == 1) = true := by decide +kernel
/-- R224's example: the fifth Tick. -/
theorem test_tick_timeout :
    nextIs (exec .tick (alone { waitCore with respTimer := 4, attempts := 2 })) (fun t =>
      t.core.err == .transactionFailed && t.core.lastErr == .timeout && t.core.attempts == 2) = true := by decide +kernel
/-- R225: with both timers at their limit the frame is ended, and no Timeout is raised. -/
theorem test_tick_both :
    nextIs (exec .tick (alone { recvCore exception 5 with respTimer := 4, ibTimer := 1 })) (fun t =>
      t.core.err == .deviceException && t.core.lastErr == .none) = true := by decide +kernel
/-- R230's example. -/
theorem test_ioErr :
    nextIs (exec .ioErr (alone { txCore with txIdx := 1 })) (fun t =>
      statusOf t == 0x0002 && t.core.err == .ioError && t.core.attempts == 1 && !txValid t.core) = true := by decide +kernel
/-- R231's example. -/
theorem test_clear :
    nextIs (exec .clear (alone { idleCore with done := true, cmdErr := true })) (fun t => statusOf t == 0x0000) = true := by
  decide +kernel
/-- R232: nothing, even when BUSY = 1. -/
theorem test_nop : nextIs (exec .nop (alone txCore)) (fun t => statusOf t == 0x0011) = true := by decide +kernel
/-- R143's example. -/
theorem test_crcInit :
    nextIs (exec .crcInit (alone { txCore with crcAcc := 0x807E })) (fun t => hostReadValue 0x12 t.core == 0xFFFF) = true := by
  decide +kernel
/-- R144's corner case: 0x1201 feeds 0x01. -/
theorem test_crcData :
    nextIs (exec (.crcData 0x1201) State.reset) (fun t => t.core.crcAcc == 0x807E) = true := by decide +kernel
/-- R312: Reset in TX reports nothing. -/
theorem test_reset :
    nextIs (exec .reset (alone { txCore with crcAcc := 0 })) (fun t =>
      statusOf t == 0x0000 && t.core.reqUnit == 0 && t.core.crcAcc == 0xFFFF) = true := by decide +kernel

/-! ### Ports -/

/-- R322: IoError before RxByte, and the byte a transport takes in that cycle stays taken. -/
theorem test_cycle_order :
    nextIs (step (present (.cycle { Cycle.quiet with ioErr := true, rxValid := true, txReady := true, rxData := 0x5A })
      (alone txCore))) (fun t =>
        t.core.err == .ioError && t.port.events == [.instr (.rxByte 0x5A), .instr .txAccept] && t.port.txStream == [0x01])
      = true := by decide +kernel
/-- R322 item 5: a send that a Tick starts hands over nothing in its own cycle. -/
theorem test_cycle_retry :
    nextIs (step (present (.cycle { Cycle.quiet with tick := true, txReady := true }) (alone { waitCore with respTimer := 4 })))
      (fun t => t.core.fsm == .tx && t.port.events == [] && t.port.txStream == []) = true := by decide +kernel
/-- R111: tx_fire = tx_valid & tx_ready, so a tx_ready alone is no event where the core offers nothing, and one in TX. -/
theorem test_cycle_tx_ready :
    cycleEvents waitCore { Cycle.quiet with txReady := true } = []
      ∧ cycleEvents idleCore { Cycle.quiet with txReady := true } = []
      ∧ cycleEvents txCore { Cycle.quiet with txReady := true } = [.instr .txAccept] := by decide +kernel
/-- R240: handed a TxAccept as such, the machine in IDLE takes the input and leaves the rest. -/
theorem test_fetch_txAccept :
    portInput .strobe [0x01, 0x00] = .event (.instr .txAccept)
      ∧ step (State.reset.withFetchWord 8 0x01) = .next State.reset := ⟨by decide +kernel, rfl⟩
/-- R72: MAX_RETRIES keeps the low byte. -/
theorem test_host_write :
    nextIs (step (present (.cycle { Cycle.quiet with host := .write 0x08 0x1203 }) (alone idleCore)))
      (fun t => hostReadValue 0x08 t.core == 0x0003) = true := by decide +kernel
/-- R72: a read returns the register map's value. -/
theorem test_host_read :
    nextIs (step (present (.cycle { Cycle.quiet with host := .read 0x01 }) (alone txCore)))
      (fun t => t.port.hRdata == 0x0011) = true := by decide +kernel
/-- R270: MalformedResponse is code 9, in LAST_ERR at 0x03 and, of a DECODE, in ERR at 0x02. -/
theorem test_error_codes :
    hostReadValue 0x02 { idleCore with err := .malformedResponse } = 9
      ∧ hostReadValue 0x03 { idleCore with lastErr := .malformedResponse } = 9
      ∧ hostReadValue 0x02 { idleCore with err := .transactionFailed, excCode := 2 } = 7 := by decide +kernel
/-- R195: the 8 bytes of an echo (R327) end by silence as MalformedResponse. -/
theorem test_echo :
    nextIs (step (present (.rxFrame [0x01, 0x03, 0x03, 0x00, 0x00, 0x01, 0x84, 0x4E]) (alone { waitCore with expLen := 17 })))
      (fun t => t.core.lastErr == .malformedResponse && t.core.fsm == .tx) = true := by decide +kernel

/-! ### Witnesses: the hypotheses of each statement can be met, each clause at the ends of its range -/

theorem witness_ChangedByteIsCrcMismatch :
    2 ≤ [(0x01 : Byte), 0x83].length + 1 + ([] : List Byte).length
      ∧ crc16 ([(0x01 : Byte), 0x83] ++ 0x02 :: []) = (0xF1 : Byte) ++ (0xC0 : Byte) ∧ (0x02 : Byte) ≠ 0x03 := by decide +kernel

/-- CrcAccumulatorIsIndependent, CmdErrIsSticky, RequestAndConfigurationKept: an instruction with a next state. -/
theorem witness_instruction_with_next :
    Instr.tick ≠ .crcInit ∧ (∀ v, Instr.tick ≠ .crcData v) ∧ Instr.tick ≠ .reset
      ∧ ∃ t, exec .tick (alone waitCore) = .next t := by
  refine ⟨by decide, fun v => by simp, by decide, ⟨_, rfl⟩⟩

/-- EncodeCommand, DecodeCommand, ExecuteCommand, SilentTransportFailsAfterAllRetries: idle states with valid requests at
both ends of the ranges. -/
theorem witness_valid_requests :
    ∀ k ∈ [requesting 1 1, requesting 247 125],
      k.fsm = .idle ∧ validRequest k.reqUnit k.reqFc k.reqAddr k.reqQty = true := by
  decide +kernel
theorem witness_RequestGoesOutAsLaidOut :
    ∀ k ∈ [requesting 1 1, requesting 247 125],
      k.fsm = .idle ∧ 1 ≤ k.reqUnit.toNat ∧ k.reqUnit.toNat ≤ 247 ∧ k.reqFc = 0x0003 ∧ 1 ≤ k.reqQty.toNat
        ∧ k.reqQty.toNat ≤ 125 := by decide +kernel
/-- The commands' statements: invalid requests one past each end. -/
theorem witness_invalid_requests :
    validRequest 0 3 0 1 = false ∧ validRequest 248 3 0 1 = false ∧ validRequest 1 2 0 1 = false
      ∧ validRequest 1 4 0 1 = false ∧ validRequest 1 3 0 0 = false ∧ validRequest 1 3 0 126 = false
      ∧ validRequest 0x0101 3 0 1 = false := by decide +kernel
theorem witness_WellFormedResponseIsAccepted :
    [(0x1234 : Word)].length = (1 : Word).toNat
      ∧ (0x33B5 : Word) = crc16 ([(1 : Word).setWidth 8, 0x03, BitVec.ofNat 8 2] ++ [(0x1234 : Word)].flatMap bigEndian)
      ∧ (List.replicate 125 (0 : Word)).length = (125 : Word).toNat := by decide +kernel
theorem witness_RxByteInWait : waitCore.fsm = .wait := by decide +kernel
/-- RxByteInRecv: the byte that ends the shortest and the longest frame, and one that ends none. -/
theorem witness_RxByteInRecv :
    (recvCore response 6).rxCnt.toNat < 255 ∧ (recvCore response 6).fsm = .recv
      ∧ (recvCore response 6).rxCnt.toNat + 1 = (recvCore response 6).expLen.toNat
      ∧ (recvCore response 254).rxCnt.toNat < 255
      ∧ (recvCore response 5).rxCnt.toNat + 1 ≠ (recvCore response 5).expLen.toNat := by decide +kernel
theorem witness_EventsOutOfPlaceChangeNothing :
    idleCore.fsm = .idle ∧ txCore.fsm = .tx ∧ idleCore.fsm ≠ .tx ∧ waitCore.fsm ≠ .tx ∧ (recvCore response 1).fsm ≠ .tx := by
  decide +kernel
theorem witness_FrameEndWritesResponse :
    validate ((recvCore response 7).rxbuf.toList.take (recvCore response 7).rxCnt.toNat) 1 3 1 = .ok [0x1234]
      ∧ (recvCore response 7).reqQty.toNat ≤ 125 := by decide +kernel
theorem witness_FrameEndReportsFailure :
    validate ((recvCore exception 5).rxbuf.toList.take (recvCore exception 5).rxCnt.toNat) 1 3 1 = .deviceException 0x02
      ∧ validate ((recvCore exception 3).rxbuf.toList.take (recvCore exception 3).rxCnt.toNat) 1 3 1
        = .error .frameTooShort
      ∧ validate ((recvCore exception 4).rxbuf.toList.take (recvCore exception 4).rxCnt.toNat) 1 3 1
        = .error .crcMismatch := by decide +kernel
/-- RetryableErrorFailsAttempt: the last retry and none left, at MAX_RETRIES = 255, and DECODE. -/
theorem witness_RetryableErrorFailsAttempt :
    { waitCore with attempts := 255, maxRetries := 255 }.attempts.toNat ≤ (255 : Byte).toNat
      ∧ ¬{ waitCore with attempts := 256, maxRetries := 255 }.attempts.toNat ≤ (255 : Byte).toNat
      ∧ { waitCore with mode := .decode }.mode = .decode ∧ waitCore.mode ≠ .decode := by decide +kernel
theorem witness_NonRetryableErrorCompletes : ErrKind.ioError = .invalidRequest ∨ ErrKind.ioError = .deviceException
    ∨ ErrKind.ioError = .ioError := by decide +kernel
/-- WholeRequestFrame: a frame the core offers, and one it has begun to hand over. -/
theorem witness_WholeRequestFrame :
    txCore.fsm = .tx ∧ txCore.txIdx = 0 ∧ txCore.txbuf.toList = reqBytes 0x01 0x0300 0x0001 0x4E84
      ∧ { txCore with txIdx := 1 }.txIdx ≠ 0 := by decide +kernel
/-- TxAcceptInTx: the first byte, the seventh and the eighth. -/
theorem witness_TxAcceptInTx :
    txCore.fsm = .tx ∧ txCore.txIdx.toNat < 8 ∧ { txCore with txIdx := 6 }.txIdx.toNat < 7
      ∧ { txCore with txIdx := 7 }.txIdx.toNat < 8 ∧ ¬{ txCore with txIdx := 7 }.txIdx.toNat < 7 := by decide +kernel
/-- TickInWait: the Tick before the limit, the one at it, a limit of 0, and the largest timer. -/
theorem witness_TickInWait :
    waitCore.fsm = .wait ∧ ¬waitCore.respTimeout.toNat ≤ { waitCore with respTimer := 3 }.respTimer.toNat + 1
      ∧ waitCore.respTimeout.toNat ≤ { waitCore with respTimer := 4 }.respTimer.toNat + 1
      ∧ { waitCore with respTimeout := 0 }.respTimeout.toNat ≤ waitCore.respTimer.toNat + 1
      ∧ { waitCore with respTimer := 65534 }.respTimer.toNat < 65535 := by decide +kernel
/-- TickInRecv: silence, expiry and neither. -/
theorem witness_TickInRecv :
    (recvCore response 1).fsm = .recv ∧ (recvCore response 1).ibTimer.toNat < 65535
      ∧ (recvCore response 1).ibTimeout.toNat ≤ { recvCore response 1 with ibTimer := 1 }.ibTimer.toNat + 1
      ∧ ¬(recvCore response 1).ibTimeout.toNat ≤ (recvCore response 1).ibTimer.toNat + 1
      ∧ (recvCore response 1).respTimeout.toNat ≤ { recvCore response 1 with respTimer := 4 }.respTimer.toNat + 1
      ∧ ¬(recvCore response 1).respTimeout.toNat ≤ (recvCore response 1).respTimer.toNat + 1 := by decide +kernel
theorem witness_ClearAndNop : { idleCore with done := true, cmdErr := true }.fsm = .idle := by decide +kernel
theorem witness_RefusedCommandSetsCmdErr :
    txCore.fsm ≠ .idle ∧ 0x0006 ≤ (0x0006 : Word).toNat ∧ 0x0006 ≤ (0xFFFF : Word).toNat := by decide +kernel
/-- SuccessResponseCompletes: the shortest response, and below the longest. -/
theorem witness_SuccessResponseCompletes :
    waitCore.fsm = .wait ∧ waitCore.reqFc = 0x0003 ∧ 1 ≤ waitCore.reqQty.toNat ∧ waitCore.reqQty.toNat ≤ 125
      ∧ waitCore.expLen.toNat = 5 + 2 * waitCore.reqQty.toNat ∧ [(0x1234 : Word)].length = waitCore.reqQty.toNat
      ∧ (0x33B5 : Word) = crc16 ([waitCore.reqUnit.setWidth 8, 0x03, BitVec.ofNat 8 2] ++ [(0x1234 : Word)].flatMap bigEndian)
    := by decide +kernel
/-- The longest fills the whole of RXBUF. -/
theorem witness_SuccessResponseCompletes_longest :
    let k : CoreState := { requesting 1 125 with fsm := .wait, expLen := 255 }
    let regs : List Word := List.replicate 125 0
    k.fsm = .wait ∧ k.reqFc = 0x0003 ∧ 1 ≤ k.reqQty.toNat ∧ k.reqQty.toNat ≤ 125
      ∧ k.expLen.toNat = 5 + 2 * k.reqQty.toNat ∧ regs.length = k.reqQty.toNat
      ∧ ∃ crc : Word, crc = crc16 ([k.reqUnit.setWidth 8, 0x03, BitVec.ofNat 8 (2 * k.reqQty.toNat)] ++ regs.flatMap bigEndian) :=
  ⟨rfl, rfl, by decide, by decide, by decide, by decide +kernel, _, rfl⟩
/-- ExceptionResponseCompletes: silence of two Ticks inside the window, and IB_TIMEOUT = 0. -/
theorem witness_ExceptionResponseCompletes :
    waitCore.fsm = .wait ∧ 5 < waitCore.expLen.toNat ∧ (0xF1C0 : Word) = crc16 [0x01, 1#1 ++ (3 : BitVec 7), 0x02]
      ∧ waitCore.respTimer.toNat + (waitCore.ibTimeout.toNat - 1) < waitCore.respTimeout.toNat
      ∧ { waitCore with ibTimeout := 0 }.ibTimeout.toNat ≤ 1 := by decide +kernel
/-- FramesOutsideReceiveAreDropped, FrameIsItsBytesThenSilence: a frame of each kind. -/
theorem witness_frames :
    (∃ u n rs c, Instr.rspRhr 0x01 0x02 [0x1234] 0x33B5 = .rspRhr u n rs c)
      ∧ (∃ u f e c, Instr.rspExc 0x01 0x03 0x02 0xF1C0 = .rspExc u f e c) ∧ idleCore.fsm = .idle ∧ txCore.fsm = .tx := by
  exact ⟨⟨_, _, _, _, rfl⟩, ⟨_, _, _, _, rfl⟩, rfl, rfl⟩
/-- FrameIsItsBytesThenSilence, its second clause: bytes that are no frame of the table, and none at all. -/
theorem witness_burst :
    decode .rxWire [1, 4, 2, 0, 0, 0, 0] = .error .unknownFunction ∧ ∃ e, decode .rxWire [] = .error e := by
  exact ⟨by decide +kernel, _, rfl⟩
/-- StatusLayout: the first and the last byte offered, and no byte. -/
theorem witness_StatusLayout :
    txCore.txIdx.toNat < 8 ∧ txCore.fsm = .tx ∧ { txCore with txIdx := 7 }.txIdx.toNat < 8 ∧ waitCore.fsm ≠ .tx := by
  decide +kernel
theorem witness_HostReadsZeroAfterReset : ∃ t, exec .reset (alone txCore) = .next t := ⟨_, rfl⟩
/-- HostReadMap: the ends of each range of write-only and reserved addresses. -/
theorem witness_HostReadMap :
    ∀ a ∈ [(0x00 : Byte), 0x13, 0x1F, 0x28, 0x7F, 0xFD, 0xFF],
      a = 0x00 ∨ (0x13 ≤ a.toNat ∧ a.toNat ≤ 0x1F) ∨ (0x28 ≤ a.toNat ∧ a.toNat ≤ 0x7F) ∨ 0xFD ≤ a.toNat := by decide +kernel
/-- RegisterWriteReadsBack, RegisterWriteWhileBusyIsRefused: the ends of the range, and MAX_RETRIES. -/
theorem witness_register_writes :
    idleCore.fsm = .idle ∧ txCore.fsm ≠ .idle
      ∧ ∀ a ∈ [(0x06 : Byte), 0x08, 0x0C], 0x06 ≤ a.toNat ∧ a.toNat ≤ 0x0C := by decide +kernel
/-- OtherWritesChangeNothing: the ends of each range. -/
theorem witness_OtherWritesChangeNothing :
    ∀ a ∈ [(0x01 : Byte), 0x05, 0x0D, 0x12, 0x14, 0xFF],
      (0x01 ≤ a.toNat ∧ a.toNat ≤ 0x05) ∨ (0x0D ≤ a.toNat ∧ a.toNat ≤ 0x12) ∨ 0x14 ≤ a.toNat := by decide +kernel
/-- StepRunsTheDecodedInstruction: a port's bytes that decode, and strobe vectors of one and of several events. -/
theorem witness_StepRunsTheDecodedInstruction :
    Port.hostWrite ≠ .strobe ∧ decode .hostWrite [0x13, 0x00, 0x01] = .ok (.crcData 1)
      ∧ decode .strobe [0b00000010, 0x00] = .ok .tick ∧ decode .strobe [0b00001111, 0x5A] = .ok .ioErr
      ∧ portInput .strobe [0b00000010, 0x00] = .event (.instr .tick)
      ∧ cycleEvents txCore
          { rst := false, ioErr := true, rxValid := true, tick := true, txReady := true, rxData := 0x5A, host := .none }
        = [.instr .ioErr, .instr (.rxByte 0x5A), .instr .tick, .instr .txAccept] := by decide +kernel
theorem witness_EncodeAfterDecode :
    Port.rxWire ≠ .strobe ∧ decode .rxWire [0x01, 0x83, 0x02, 0xC0, 0xF1] = .ok (.rspExc 0x01 0x03 0x02 0xF1C0)
      ∧ decode .rxWire [0x01, 0x03, 0x02, 0xC0, 0xF1] = .ok (.rspRhr 0x01 0x02 [] 0xF1C0) := by decide +kernel
/-- ResponseWindowIsBounded, StepKeepsInvariant: a state in the window that meets the invariant. -/
theorem witness_invariant : (alone waitCore).Inv := by
  constructor <;> decide +kernel
theorem witness_StepKeepsInvariant : ∃ t, step (alone waitCore) = .next t := ⟨_, rfl⟩
theorem witness_ResponseWindowIsBounded :
    (∀ i ∈ List.replicate 5 Instr.tick, i = .tick ∨ ∃ b, i = .rxByte b)
      ∧ max 1 waitCore.respTimeout.toNat ≤ (List.replicate 5 Instr.tick).count .tick := by
  exact ⟨fun i hi => .inl (List.eq_of_mem_replicate hi), by decide⟩
/-- RegsChangeOnlyOnSuccess: the byte that ends a good frame changes REGS. -/
theorem witness_RegsChangeOnlyOnSuccess :
    Instr.rxByte 0x33 ≠ .reset
      ∧ nextIs (exec (.rxByte 0x33) (alone (recvCore response 6))) (fun t => t.core.regs[0] != idleCore.regs[0]) = true := by
  decide +kernel
/-- TxbufWrittenOnlyAtAcceptance: another command in IDLE, and EXECUTE while BUSY. -/
theorem witness_TxbufWrittenOnlyAtAcceptance :
    (Instr.decode ≠ .encode ∧ Instr.decode ≠ .execute) ∧ (∃ t, exec .decode (alone idleCore) = .next t)
      ∧ txCore.fsm ≠ .idle ∧ ∃ t, exec .execute (alone txCore) = .next t :=
  ⟨by decide, ⟨_, rfl⟩, by decide, ⟨_, rfl⟩⟩
theorem witness_BusyEndsOnlyByCompletion :
    txCore.fsm ≠ .idle ∧ nextIs (exec .ioErr (alone txCore)) (fun t => t.core.fsm == .idle) = true := by decide +kernel
theorem witness_IdleIsQuiet :
    idleCore.fsm = .idle ∧ Instr.tick ≠ .encode ∧ Instr.tick ≠ .decode ∧ Instr.tick ≠ .execute ∧ Instr.tick ≠ .crcInit
      ∧ Instr.tick ≠ .clear ∧ (∀ v, Instr.tick ≠ .crcData v) ∧ Instr.tick ≠ .reset :=
  ⟨rfl, by decide, by decide, by decide, by decide, by decide, fun v => by simp, by decide⟩
/-- The request's response window in a DECODE, one Tick before it closes. -/
def lastTickCore : CoreState := { idleCore with fsm := .wait, mode := .decode, expLen := 7, respTimer := 4 }
/-- What that Tick leaves. -/
def timedOutCore : CoreState :=
  { lastTickCore with fsm := .idle, done := true, err := .timeout, lastErr := .timeout, respTimer := 5 }

/-- RunEndIsFinal: from a state that meets the invariant, ENCODE ends its own run, and a DECODE ends with a byte that
completes its response, one byte before which it has not ended. -/
theorem witness_RunEndIsFinal_inv : (alone idleCore).Inv := by
  constructor <;> decide +kernel
theorem witness_RunEndIsFinal_encode : ∃ t, RunEnds (.instr .encode) [] (alone idleCore) t :=
  ⟨_, { accepted := rfl, command := .inl rfl, not_reset := by simp, leads := rfl, done := by decide +kernel
        first := fun _ _ hp hne _ => absurd (List.prefix_nil.1 hp) hne }⟩
theorem witness_RunEndIsFinal_decode :
    ∃ t, RunEnds (.instr .decode) [.instr (.rspRhr 0x01 0x02 [0x1234] 0x33B5)] (alone idleCore) t := by
  refine ⟨_, { accepted := rfl, command := .inr (.inl rfl), not_reset := by simp, leads := rfl, done := by decide +kernel
               first := ?_ }⟩
  intro es u hp hne h
  rcases List.prefix_cons_iff.1 hp with rfl | ⟨_, rfl, hq⟩
  · cases h
    decide +kernel
  · rw [List.prefix_nil.1 hq] at hne
    exact absurd rfl hne

/-- EveryCommandCompletes: an endless run of Ticks, the first of which ends a DECODE. -/
theorem witness_EveryCommandCompletes :
    ∃ (es : Nat → Event) (ss : Nat → State),
      IsRun es ss ∧ (ss 0).Inv ∧ FairTransport es ss ∧ KeepsTicking es ∧ (ss 0).core.fsm ≠ .idle := by
  refine ⟨fun _ => .instr .tick, fun n => match n with | 0 => alone lastTickCore | _ + 1 => alone timedOutCore,
    ?_, ?_, ?_, fun n => ⟨n, Nat.le_refl n, rfl⟩, by decide +kernel⟩
  · rintro (_ | n)
    · rfl
    · rfl
  · constructor <;> decide +kernel
  · have never : timedOutCore.fsm ≠ .tx := by decide +kernel
    rintro (_ | n) h
    · exact absurd h (by decide +kernel)
    · exact absurd h never
/-- FairTransport's own hypothesis, a byte offered, and the four ways on. -/
theorem witness_FairTransport :
    (alone txCore).core.fsm = .tx ∧ offersFrame (reqBytes 0x01 0x0300 0x0001 0x4E84) txCore = true := by decide +kernel

/-- ExecuteForgetsThePast: two pasts, one of them with a result, another mode, a retry count, stale timers and bytes sent
before; the events after EXECUTE are a TxAccept, a host read, a host write and a burst. -/
theorem witness_ExecuteForgetsThePast :
    let old : CoreState := { idleCore with
      done := true, err := .timeout, lastErr := .timeout, mode := .decode, attempts := 2, respTimer := 5, rxCnt := 3 }
    let es : List Event := [.instr .execute, .instr .txAccept, .hostRead 0x01, .regWrite 0x06 9, .burst [1, 4]]
    idleCore.fsm = .idle ∧ old.fsm = .idle ∧ sameRequest idleCore old
      ∧ (∃ t, runAll es (alone idleCore) = .next t)
      ∧ ∃ t, runAll es { core := old, port := { PortState.initial with txStream := [0xFF] } } = .next t :=
  ⟨rfl, rfl, ⟨rfl, rfl, rfl, rfl, rfl, rfl, rfl⟩, ⟨_, rfl⟩, ⟨_, rfl⟩⟩

end Sys2Proof.Tests
end

/-! PROOFS. The scope of the machine (00_scope.md): every instruction and every step answers a next state, and a step
runs what the ports' bytes decode to. -/

section
namespace Sys2Proof.Machine

/-! ### Every event has a next state (R8, R238) -/

/-- REQ_RHR either hands over the whole frame or leaves the state unchanged (log 4). -/
theorem execReqRhr_eq (unit : Byte) (addr qty crc : Word) (s : State) :
    execReqRhr unit addr qty crc s =
      .next (if offersFrame (reqBytes unit addr qty crc) s.core then acceptBytes reqLen s else s) := by
  unfold execReqRhr
  split <;> rfl

/-- Every arm of `exec` but that of REQ_RHR is a `.next` by its definition. -/
theorem exec_total (i : Instr) (s : State) : ∃ t, exec i s = .next t := by
  cases i
  case reqRhr unit addr qty crc => exact ⟨_, execReqRhr_eq unit addr qty crc s⟩
  all_goals exact ⟨_, rfl⟩

theorem runEvent_total (e : Event) (s : State) : ∃ t, runEvent e s = .next t := by
  cases e
  case instr i => exact exec_total i s
  all_goals exact ⟨_, rfl⟩

theorem step_total (s : State) : ∃ t, step s = .next t := by
  obtain ⟨u, -, h | ⟨e, h⟩⟩ := step_cases s
  · exact ⟨u, h⟩
  · rw [h]
    exact runEvent_total e u

/-- Settles O51: no arm of `exec` and no event has a fault or a refusal. -/
theorem machineIsTotal : Obligations.MachineIsTotal := ⟨exec_total, step_total⟩

/-! ### Decoding undoes encoding -/

/-- A register pair before at least one more byte is a register of the response. -/
theorem splitRegs_pair (hi lo : Byte) (l : List Byte) (h : l ≠ []) :
    splitRegs (hi :: lo :: l) = (splitRegs l).map fun p => (joinBytes hi lo :: p.1, p.2) := by
  cases l with
  | nil => exact absurd rfl h
  | cons b rest =>
    rw [splitRegs]
    cases splitRegs (b :: rest) <;> rfl

theorem splitRegs_flatMap_bigEndian (regs : List Word) (crc : Word) :
    splitRegs (regs.flatMap bigEndian ++ littleEndian crc) = some (regs, crc) := by
  induction regs with
  | nil => simp [littleEndian, splitRegs]
  | cons w regs ih =>
    have tail_ne : regs.flatMap bigEndian ++ littleEndian crc ≠ [] := by simp [littleEndian]
    have split_head := splitRegs_pair (hiByte w) (loByte w) _ tail_ne
    rw [ih] at split_head
    simpa [bigEndian] using split_head

theorem decodeTx_reqBytes (unit : Byte) (addr qty crc : Word) :
    decodeTx (reqBytes unit addr qty crc) = .ok (.reqRhr unit addr qty crc) := by
  simp [reqBytes, bigEndian, littleEndian, decodeTx]

theorem decodeRx_rspBytes (unit byteCount : Byte) (regs : List Word) (crc : Word) :
    decodeRx (rspBytes unit byteCount regs crc) = .ok (.rspRhr unit byteCount regs crc) := by
  simp [rspBytes, decodeRx, splitRegs_flatMap_bigEndian]

theorem excFunction_bit7 (func : BitVec 7) : (excFunction func)[7] = true :=
  (BitVec.getElem_append (x := 1#1) (y := func) (show 7 < 1 + 7 by decide)).trans rfl

theorem excFunction_low (func : BitVec 7) : (excFunction func).extractLsb' 0 7 = func :=
  BitVec.extractLsb'_append_eq_right

theorem decodeRx_excBytes (unit : Byte) (func : BitVec 7) (code : Byte) (crc : Word) :
    decodeRx (excBytes unit func code crc) = .ok (.rspExc unit func code crc) := by
  simp [excBytes, littleEndian, decodeRx, excFunction_bit7, excFunction_low]

/-- The three frames by their own lemmas, CRC_DATA by its word's two bytes; the other encodings are fixed words. -/
theorem decode_encode (i : Instr) : decode (encode i).1 (encode i).2 = .ok i := by
  cases i
  case reqRhr unit addr qty crc => exact decodeTx_reqBytes unit addr qty crc
  case rspRhr unit byteCount regs crc => exact decodeRx_rspBytes unit byteCount regs crc
  case rspExc unit func code crc => exact decodeRx_excBytes unit func code crc
  case crcData v => simp [encode, decode, decodeHostWrite]
  all_goals rfl

/-! ### The strobes of a cycle in the order of R322 -/

/-- The events of `io_err`, `rx_valid` and `tick`, which come before TxAccept in a cycle (R322 items 2 to 4). -/
def strobesBeforeTx (ioErr rxValid tick : Bool) (rxData : Byte) : List Event :=
  (if ioErr then [.instr .ioErr] else []) ++ (if rxValid then [.instr (.rxByte rxData)] else [])
    ++ (if tick then [.instr .tick] else [])

/-- The event of `tx_fire` (R322 item 5). -/
def txFireEvents (txFire : Bool) : List Event := if txFire then [.instr .txAccept] else []

theorem txFireEvents_length_le (b : Bool) : (txFireEvents b).length ≤ 1 := by cases b <;> simp [txFireEvents]

/-- Without `rst` the events of a strobe vector are those of its bits, from bit 3 down: the truth table of the four. -/
theorem strobeEvents_of_not_rst (ioErr rxValid tick txFire : Bool) (rxData : Byte) :
    strobeEvents 5 (BitVec.ofBool false ++ BitVec.ofBool ioErr ++ BitVec.ofBool rxValid ++ BitVec.ofBool tick
        ++ BitVec.ofBool txFire) rxData
      = strobesBeforeTx ioErr rxValid tick rxData ++ txFireEvents txFire := by
  cases ioErr <;> cases rxValid <;> cases tick <;> cases txFire <;> rfl

theorem cycleEvents_of_not_rst (k : CoreState) (c : Cycle) (h : c.rst = false) :
    cycleEvents k c =
      strobesBeforeTx c.ioErr c.rxValid c.tick c.rxData ++ txFireEvents (txFire k c) ++ hostEvents c.host := by
  simp only [cycleEvents, strobeVector, h, strobeEvents_of_not_rst, Bool.false_eq_true, if_false]

/-- A host write in an otherwise quiet cycle is the only event of the cycle. -/
theorem cycleEvents_hostWrite (k : CoreState) (a : Byte) (v : Word) :
    cycleEvents k { Cycle.quiet with host := .write a v } = [hostWriteEvent a v] := by
  rw [cycleEvents_of_not_rst _ _ rfl]
  simp [Cycle.quiet, strobesBeforeTx, txFire, txFireEvents, hostEvents]

theorem takenAnyway_cycle (k : CoreState) (c : Cycle) :
    takenAnyway k (.cycle c) =
      if c.rst = false ∧ c.ioErr = true ∧ c.txReady = true ∧ k.fsm = .tx then [txData k] else [] := by
  simp [takenAnyway, txFire, txValid_iff, and_assoc, and_comm]

/-! ### A presented input of one instruction -/

theorem step_present_single (x : Input) (i : Instr) (s : State) (hx : inputEvents s.core x = [.instr i])
    (ht : takenAnyway s.core x = []) :
    step (present x s) = exec i { s with port := { s.port with events := [] } } := by
  rw [step_present x s _ _ hx, ht, List.append_nil]
  rfl

theorem step_present_instr (i : Instr) (s : State) :
    step (present (.event (.instr i)) s) = exec i { s with port := { s.port with events := [] } } :=
  step_present_single _ i s rfl rfl

/-- Pending events come before the next input (log 1). -/
theorem step_pending (i : Instr) (es : List Event) (s : State) :
    step { s with port := { s.port with events := .instr i :: es } }
      = exec i { s with port := { s.port with events := es } } := rfl

/-- What decodes on the host port is a word of three bytes. -/
theorem decode_hostWrite_ok (bs : List Byte) (i : Instr) (h : decode .hostWrite bs = .ok i) :
    ∃ a hi lo, bs = [a, hi, lo] := by
  simp only [decode] at h
  split at h
  · exact ⟨_, _, _, rfl⟩
  · cases h

theorem hostWriteEvent_of_decode (a hi lo : Byte) (i : Instr) (h : decode .hostWrite [a, hi, lo] = .ok i) :
    hostWriteEvent a (joinBytes hi lo) = .instr i := by
  simp [hostWriteEvent, h]

/-- On the host port and the streams, bytes that decode are one event, the decoded instruction. -/
theorem step_portInput_of_decode (p : Port) (bs : List Byte) (i : Instr) (s : State) (hp : p ≠ .strobe)
    (h : decode p bs = .ok i) :
    step (present (portInput p bs) s) = exec i { s with port := { s.port with events := [] } } := by
  cases p with
  | hostWrite =>
    obtain ⟨a, hi, lo, rfl⟩ := decode_hostWrite_ok bs i h
    apply step_present_single
    · simp only [portInput, inputEvents]
      rw [cycleEvents_hostWrite, hostWriteEvent_of_decode a hi lo i h]
    · rfl
  | strobe => exact absurd rfl hp
  | txWire => exact step_present_single _ i s (by simp [portInput, inputEvents, h]) rfl
  | rxWire => exact step_present_single _ i s (by simp [portInput, inputEvents, h]) rfl

/-- The strobe vector of an encoded event has one bit. -/
theorem portInput_encode_strobe (i : Instr) (h : (encode i).1 = .strobe) :
    portInput (encode i).1 (encode i).2 = .event (.instr i) := by
  cases i
  case reset | ioErr | rxByte | tick | txAccept => rfl
  all_goals simp [encode] at h

theorem step_portInput_encode (i : Instr) (s : State) :
    step (present (portInput (encode i).1 (encode i).2) s) = exec i { s with port := { s.port with events := [] } } := by
  by_cases hp : (encode i).1 = .strobe
  · rw [portInput_encode_strobe i hp]
    exact step_present_instr i s
  · exact step_portInput_of_decode _ _ i s hp (decode_encode i)

/-! ### A strobe vector -/

/-- The clock cycle that a strobe vector of several events is (log 2): bit 0 is taken for `tx_ready`. -/
def strobeCycle (v rxData : Byte) : Cycle where
  rst := v.getLsbD 4
  ioErr := v.getLsbD 3
  rxValid := v.getLsbD 2
  tick := v.getLsbD 1
  txReady := v.getLsbD 0
  rxData := rxData
  host := .none

theorem portInput_strobe_of_single (v rxData : Byte) (e : Event) (h : strobeEvents 5 (v.setWidth 5) rxData = [e]) :
    portInput .strobe [v, rxData] = .event e := by
  simp only [portInput, h]

theorem portInput_strobe_of_several (v rxData : Byte) (e e' : Event) (es : List Event)
    (h : strobeEvents 5 (v.setWidth 5) rxData = e :: e' :: es) :
    portInput .strobe [v, rxData] = .cycle (strobeCycle v rxData) := by
  simp only [portInput, h, strobeCycle]

/-- What decodes on the strobe port is the first event of the vector. -/
theorem decode_strobe_ok (bs : List Byte) (i : Instr) (h : decode .strobe bs = .ok i) :
    ∃ v rxData es, bs = [v, rxData] ∧ strobeEvents 5 (v.setWidth 5) rxData = .instr i :: es := by
  simp only [decode] at h
  split at h
  next v rxData =>
    unfold decodeStrobe at h
    split at h
    · cases h
    · split at h
      next j rest hfirst =>
        cases h
        exact ⟨v, rxData, strobeEvents 4 rest rxData, rfl, by simp only [strobeEvents, hfirst]⟩
      next => cases h
  next => cases h

/-- The low five bits of a byte as the five strobes. -/
theorem setWidth_five_eq (v : Byte) :
    v.setWidth 5 = BitVec.ofBool (v.getLsbD 4) ++ BitVec.ofBool (v.getLsbD 3) ++ BitVec.ofBool (v.getLsbD 2)
      ++ BitVec.ofBool (v.getLsbD 1) ++ BitVec.ofBool (v.getLsbD 0) := by
  revert v
  decide

/-- `rst` leaves no other event. -/
theorem strobeEvents_of_rst (v : BitVec 5) (rxData : Byte) (h : v.getLsbD 4 = true) :
    strobeEvents 5 v rxData = [.instr .reset] := by
  simp [strobeEvents, firstStrobe, h]

theorem strobeEvents_setWidth_of_not_rst (v rxData : Byte) (h : v.getLsbD 4 = false) :
    strobeEvents 5 (v.setWidth 5) rxData =
      strobesBeforeTx (v.getLsbD 3) (v.getLsbD 2) (v.getLsbD 1) rxData ++ txFireEvents (v.getLsbD 0) := by
  rw [setWidth_five_eq, h, strobeEvents_of_not_rst]

/-- Of several events the first comes before TxAccept, the last in order, so it is the cycle's first whether or not the
core offers a byte. -/
theorem cycleEvents_strobeCycle_of_several (k : CoreState) (v rxData : Byte) (e e' : Event) (es : List Event)
    (h : strobeEvents 5 (v.setWidth 5) rxData = e :: e' :: es) :
    ∃ fs, cycleEvents k (strobeCycle v rxData) = e :: fs := by
  cases hrst : v.getLsbD 4 with
  | true =>
    rw [strobeEvents_of_rst _ _ (by simpa using hrst)] at h
    cases h
  | false =>
    rw [strobeEvents_setWidth_of_not_rst v rxData hrst] at h
    rw [cycleEvents_of_not_rst k _ hrst]
    rcases List.append_eq_cons_iff.1 h with ⟨-, htx⟩ | ⟨bs, hbefore, -⟩
    · have hlen := txFireEvents_length_le (v.getLsbD 0)
      simp only [htx, List.length_cons] at hlen
      omega
    · exact ⟨_, congrArg (· ++ _ ++ _) hbefore⟩

/-- Settles O44: each kind of input presents the decoded instruction as its first event, and a step runs that. -/
theorem stepRunsTheDecodedInstruction : Obligations.StepRunsTheDecodedInstruction := by
  refine ⟨step_portInput_encode, step_portInput_of_decode, ?_, step_present_instr, step_pending⟩
  intro bs i s h
  obtain ⟨v, rxData, es, rfl, hes⟩ := decode_strobe_ok bs i h
  cases es with
  | nil =>
    have hinput := portInput_strobe_of_single v rxData _ hes
    exact .inl ⟨hinput, hinput ▸ step_present_instr i s⟩
  | cons e es =>
    obtain ⟨fs, hcycle⟩ := cycleEvents_strobeCycle_of_several s.core v rxData _ _ _ hes
    refine .inr ⟨strobeCycle v rxData, fs, portInput_strobe_of_several v rxData _ _ _ hes, hcycle, ?_⟩
    rw [step_present (.cycle (strobeCycle v rxData)) s _ _ hcycle, takenAnyway_cycle]
    rfl

end Sys2Proof.Machine
end

/-! PROOFS. The state (10_state.md): the invariant of R53 and its preservation, and what an instruction changes. -/

section
namespace Sys2Proof.Machine

/-! ### What is kept by every event

The frames, the strobes and NOP act on the core by four functions, so a reflexive and transitive relation that those keep
holds across every one of these instructions. -/

/-- A relation between the core before and after that composes and that each of the four events meets. -/
structure EventRelation (P : CoreState → CoreState → Prop) : Prop where
  refl : ∀ k, P k k
  trans : ∀ k l m, P k l → P l m → P k m
  rxByte : ∀ b k, P k (rxByteEvent b k)
  tick : ∀ k, P k (tickEvent k)
  txAccept : ∀ k, P k (txAcceptEvent k)
  ioError : ∀ k, P k (ioErrorEvent k)

/-- The core sees nothing of a TxAccept but its event, which outside TX does nothing (R240). -/
theorem acceptByte_core (s : State) : (acceptByte s).core = txAcceptEvent s.core := by
  by_cases h : s.core.fsm = .tx
  · simp [acceptByte, (txValid_iff s.core).2 h]
  · rw [acceptByte_of_ne s h, txAcceptEvent_of_ne _ h]

namespace EventRelation

variable {P : CoreState → CoreState → Prop} (hP : EventRelation P)
include hP

theorem receiveFrame (f : List Byte) (k : CoreState) : P k (receiveFrame f k) :=
  receiveFrame_induct hP.refl hP.trans hP.rxByte hP.tick f k

theorem acceptBytes (n : Nat) (s : State) : P s.core (acceptBytes n s).core := by
  induction n generalizing s with
  | zero => exact hP.refl _
  | succ n ih =>
    have first := hP.txAccept s.core
    rw [← acceptByte_core] at first
    exact hP.trans _ _ _ first (ih _)

theorem exec {i : Instr} {s t : State} (hi : isEvent i = true) (h : exec i s = .next t) : P s.core t.core := by
  cases i
  case reqRhr unit addr qty crc =>
    have := (execReqRhr_eq unit addr qty crc s).symm.trans h
    cases this
    split
    · exact hP.acceptBytes _ s
    · exact hP.refl _
  case txAccept => cases h; exact hP.acceptBytes 1 s
  case rspRhr => cases h; exact hP.receiveFrame _ _
  case rspExc => cases h; exact hP.receiveFrame _ _
  case nop => cases h; exact hP.refl _
  case ioErr => cases h; exact hP.ioError _
  case rxByte b => cases h; exact hP.rxByte b _
  case tick => cases h; exact hP.tick _
  all_goals cases hi

end EventRelation

/-! ### What a command can do -/

/-- Everything an instruction that is no event can make of the core `k`: Reset, the CRC port's write, the refusal of a
command while BUSY (R233), or the effect of one of the four commands that BUSY refuses. -/
inductive CommandEffect (k : CoreState) : Instr → CoreState → Prop
  | reset : CommandEffect k .reset CoreState.reset
  | crcPort (i : Instr) (c : Word) : CommandEffect k i { k with crcAcc := c }
  | refused (i : Instr) (busy : k.fsm ≠ .idle) : CommandEffect k i (refuse k)
  | encode (idle : k.fsm = .idle) : CommandEffect k .encode (doEncode k)
  | decode (idle : k.fsm = .idle) : CommandEffect k .decode (doDecode k)
  | execute (idle : k.fsm = .idle) : CommandEffect k .execute (doExecute k)
  | clear (idle : k.fsm = .idle) : CommandEffect k .clear (clearFlags k)

theorem CommandEffect.of_whenIdle {k : CoreState} {i : Instr} {act : CoreState → CoreState}
    (h : k.fsm = .idle → CommandEffect k i (act k)) : CommandEffect k i (whenIdle act k) := by
  rcases whenIdle_cases act k with ⟨idle, heq⟩ | ⟨busy, heq⟩ <;> rw [heq]
  · exact h idle
  · exact .refused i busy

theorem exec_commandEffect {i : Instr} {s t : State} (hi : isEvent i = false) (h : exec i s = .next t) :
    CommandEffect s.core i t.core := by
  cases i
  case encode => cases h; exact .of_whenIdle .encode
  case decode => cases h; exact .of_whenIdle .decode
  case execute => cases h; exact .of_whenIdle .execute
  case clear => cases h; exact .of_whenIdle .clear
  case crcInit => cases h; exact .crcPort _ _
  case crcData v => cases h; exact .crcPort _ _
  case reset => cases h; exact .reset
  all_goals cases hi

/-! ### The invariant, taken apart by BUSY -/

/-- What the invariant says of the result registers when ERR reads `e`. -/
structure Reports (e : ErrKind) (k : CoreState) : Prop where
  nreg : k.respNreg ≠ 0 → e = .none ∧ k.respBc.toNat = 2 * k.respNreg.toNat
  exc_code : e ≠ .deviceException → k.excCode = 0
  last_err : k.lastErr = .none ∨ retryable k.lastErr = true
  err_decode : retryable e = true → k.mode = .decode ∧ k.lastErr = e
  err_wrapped : e = .transactionFailed → k.mode = .execute ∧ retryable k.lastErr = true
  tx_len : k.txLen = 0 ∨ k.txLen = 8
  ranges : k.attempts.toNat ≤ 256 ∧ k.txIdx.toNat ≤ 8 ∧ k.respNreg.toNat ≤ 125

/-- What the invariant says while an operation is in progress of everything but the collected frame, the byte to send
and the timers. -/
structure InProgress (k : CoreState) : Prop where
  done : k.done = false
  results :
    k.ok = false ∧ k.err = .none ∧ k.excCode = 0 ∧ k.respUnit = 0 ∧ k.respFc = 0 ∧ k.respBc = 0 ∧ k.respNreg = 0
  request :
    1 ≤ k.reqUnit.toNat ∧ k.reqUnit.toNat ≤ 247 ∧ k.reqFc = 3 ∧ 1 ≤ k.reqQty.toNat ∧ k.reqQty.toNat ≤ 125
      ∧ k.expLen.toNat = 5 + 2 * k.reqQty.toNat
  execute : k.mode = .execute → k.txLen = 8 ∧ 1 ≤ k.attempts.toNat ∧ k.attempts.toNat ≤ k.maxRetries.toNat + 1
  decode : k.mode = .decode → k.attempts = 0
  reports : Reports .none k

theorem inv_of_idle {k : CoreState} (hf : k.fsm = .idle) (hc : k.rxCnt = 0) (ok_done : k.ok = true → k.done = true)
    (done_ok : k.done = true → (k.ok = true ↔ k.err = .none)) (hr : Reports k.err k) : k.Inv := by
  have not_busy : busy k ≠ true := by simp [busy_iff, hf]
  exact {
    busy_done := fun hb => absurd hb not_busy
    ok_done := ok_done
    done_ok := done_ok
    rxCnt_zero := fun _ => hc
    rxCnt_recv := by simp [hf]
    tx_idx := by simp [hf]
    busy_request := fun hb => absurd hb not_busy
    busy_txLen := fun hb => absurd hb not_busy
    busy_attempts := fun hb => absurd hb not_busy
    decode_attempts := fun hb => absurd hb not_busy
    nreg := hr.nreg
    exc_code := hr.exc_code
    timers := by simp [hf]
    busy_results := fun hb => absurd hb not_busy
    last_err := hr.last_err
    err_decode := hr.err_decode
    err_wrapped := hr.err_wrapped
    tx_len := hr.tx_len
    ranges := hr.ranges }

theorem CoreState.Inv.reports {k : CoreState} (h : k.Inv) : Reports k.err k where
  nreg := h.nreg
  exc_code := h.exc_code
  last_err := h.last_err
  err_decode := h.err_decode
  err_wrapped := h.err_wrapped
  tx_len := h.tx_len
  ranges := h.ranges

theorem CoreState.Inv.inProgress {k : CoreState} (h : k.Inv) (hf : k.fsm ≠ .idle) : InProgress k := by
  have hb := (busy_iff k).2 hf
  have results := h.busy_results hb
  have err_none : k.err = .none := results.2.1
  exact {
    done := h.busy_done hb
    results := results
    request := h.busy_request hb
    execute := fun hm => ⟨h.busy_txLen hb hm, h.busy_attempts hb hm⟩
    decode := h.decode_attempts hb
    reports := err_none ▸ h.reports }

namespace InProgress

variable {k : CoreState}

theorem err_none (h : InProgress k) : k.err = .none := h.results.2.1

theorem respNreg_zero (h : InProgress k) : k.respNreg = 0 := by
  obtain ⟨-, -, -, -, -, -, nreg⟩ := h.results
  exact nreg

/-- The invariant in one of the three busy states. -/
theorem inv (h : InProgress k) (rxCnt_zero : k.fsm ≠ .recv → k.rxCnt = 0)
    (rxCnt_recv : k.fsm = .recv → 1 ≤ k.rxCnt.toNat ∧ k.rxCnt.toNat < k.expLen.toNat)
    (tx_idx : k.fsm = .tx → k.txIdx.toNat ≤ 7 ∧ k.mode = .execute)
    (timers : k.fsm = .wait ∨ k.fsm = .recv →
      k.respTimer.toNat < max 1 k.respTimeout.toNat ∧ k.ibTimer.toNat < max 1 k.ibTimeout.toNat) : k.Inv := by
  have reports : Reports k.err k := h.err_none ▸ h.reports
  exact {
    busy_done := fun _ => h.done
    ok_done := fun hok => absurd hok (by simp [h.results])
    done_ok := fun hdone => absurd hdone (by simp [h.done])
    rxCnt_zero := rxCnt_zero
    rxCnt_recv := rxCnt_recv
    tx_idx := fun ht => ⟨(tx_idx ht).1, (h.execute (tx_idx ht).2).1, (tx_idx ht).2⟩
    busy_request := fun _ => h.request
    busy_txLen := fun _ hm => (h.execute hm).1
    busy_attempts := fun _ hm => (h.execute hm).2
    decode_attempts := fun _ => h.decode
    nreg := reports.nreg
    exc_code := reports.exc_code
    timers := timers
    busy_results := fun _ => h.results
    last_err := reports.last_err
    err_decode := reports.err_decode
    err_wrapped := reports.err_wrapped
    tx_len := reports.tx_len
    ranges := reports.ranges }

end InProgress

/-! ### Completions, retries and the frame's end -/

theorem complete_inv {b : Bool} {e : ErrKind} {k : CoreState} (hb : b = true ↔ e = .none) (hr : Reports e k) :
    (complete b e k).Inv :=
  inv_of_idle rfl rfl (fun _ => rfl) (fun _ => hb) { hr with }

theorem writeResponse_inv {k : CoreState} {regs : List Word} (h : InProgress k)
    (hv : validate (collectedFrame k) k.reqUnit k.reqFc k.reqQty = .ok regs) :
    (writeResponse (collectedFrame k) regs k).Inv := by
  obtain ⟨-, -, -, -, byteCount, -⟩ := validate_ok _ _ _ _ _ hv
  obtain ⟨-, -, -, -, qty_le, -⟩ := h.request
  have respNreg : (k.reqQty.setWidth 7).toNat = k.reqQty.toNat := by
    rw [BitVec.toNat_setWidth]; omega
  exact complete_inv (by simp) { h.reports with
    nreg := fun _ => ⟨rfl, by rw [respNreg]; exact byteCount⟩
    ranges := ⟨h.reports.ranges.1, h.reports.ranges.2.1, by rw [respNreg]; exact qty_le⟩ }

/-- An error that no attempt can answer reports itself over the results cleared at acceptance. -/
theorem InProgress.reports_terminal {e : ErrKind} {k : CoreState} (h : InProgress k) (he : retryable e = false)
    (hw : e ≠ .transactionFailed) : Reports e k :=
  { h.reports with
    nreg := fun hn => absurd h.respNreg_zero hn
    exc_code := fun _ => h.reports.exc_code (by simp)
    err_decode := by simp [he]
    err_wrapped := by simp [hw] }

theorem ioError_inv {k : CoreState} (h : InProgress k) : (complete false .ioError k).Inv :=
  complete_inv (by simp) (h.reports_terminal rfl (by simp))

theorem writeException_inv {k : CoreState} (f : List Byte) (code : Byte) (h : InProgress k) :
    (writeException f code k).Inv :=
  complete_inv (by simp) { h.reports_terminal (e := .deviceException) rfl (by simp) with
    exc_code := fun he => absurd rfl he }

/-- A retry sends the same frame again with one more attempt counted, which MAX_RETRIES allows. -/
theorem retryAttempt_inv {e : ErrKind} {k : CoreState} (h : InProgress k) (he : retryable e = true)
    (hm : k.mode = .execute) (hr : k.attempts.toNat ≤ k.maxRetries.toNat) : (retryAttempt (discardFrame e k)).Inv := by
  obtain ⟨txLen, -, -⟩ := h.execute hm
  have maxRetries_lt := k.maxRetries.isLt
  have attempts : (retryAttempt (discardFrame e k)).attempts.toNat = k.attempts.toNat + 1 := by
    rw [retryAttempt_attempts, discardFrame_attempts]
    bv_omega
  have inProgress : InProgress (retryAttempt (discardFrame e k)) := { h with
    execute := fun _ => ⟨txLen, attempts ▸ Nat.succ_pos _, attempts ▸ Nat.succ_le_succ hr⟩
    decode := by simp [hm]
    reports := { h.reports with
      last_err := .inr he
      err_decode := fun he => by cases he
      err_wrapped := fun he => by cases he
      ranges := ⟨by omega, by simp, h.reports.ranges.2.2⟩ } }
  exact inProgress.inv (by simp) (by simp) (by simp [hm]) (by simp)

/-- A retryable error ends a DECODE with itself and an EXECUTE without retries with TransactionFailed; else the next
attempt starts. -/
theorem raise_inv {e : ErrKind} {k : CoreState} (h : InProgress k) (he : retryable e = true) : (raise e k).Inv := by
  have ended {e' : ErrKind} (hn : e' ≠ .none) (hd : retryable e' = true → k.mode = .decode ∧ e = e')
      (hw : e' = .transactionFailed → k.mode = .execute) : (complete false e' (discardFrame e k)).Inv :=
    complete_inv (by simp [hn]) { h.reports with
      nreg := fun hn => absurd h.respNreg_zero hn
      exc_code := fun _ => h.reports.exc_code (by simp)
      last_err := .inr he
      err_decode := hd
      err_wrapped := fun heq => ⟨hw heq, he⟩ }
  rw [raise_of_retryable e k he]
  rcases mode_cases k with hm | hm
  · by_cases hr : k.attempts.toNat ≤ k.maxRetries.toNat
    · rw [fail_of_retry e k hm hr]
      exact retryAttempt_inv h he hm hr
    · rw [fail_of_spent e k hm hr]
      exact ended (by simp) (fun hd => by cases hd) (fun _ => hm)
  · rw [fail_of_decode e k hm]
    exact ended (fun hn => by simp [hn, retryable] at he) (fun _ => ⟨hm, rfl⟩)
      (fun hw => by simp [hw, retryable] at he)

theorem frameEnd_inv {k : CoreState} (h : InProgress k) : (frameEnd k).Inv := by
  rcases frameEnd_cases k with ⟨regs, hv, heq⟩ | ⟨code, -, heq⟩ | ⟨e, he, -, heq⟩ <;> rw [heq]
  · exact writeResponse_inv h hv
  · exact writeException_inv _ code h
  · exact raise_inv h he

/-! ### Every event keeps the invariant -/

namespace InProgress

variable {k : CoreState}

theorem takeByte (h : InProgress k) (b : Byte) : InProgress (takeByte b k) := { h with reports := { h.reports with } }

theorem countWait (h : InProgress k) : InProgress (countWait k) := { h with reports := { h.reports with } }

theorem countRecv (h : InProgress k) : InProgress (countRecv k) := { h with reports := { h.reports with } }

end InProgress

/-- A byte that does not complete the frame leaves room for the rest of it. -/
theorem takeByte_inv {b : Byte} {k : CoreState} (h : k.Inv) (hf : k.fsm = .recv) (hc : k.rxCnt + 1 ≠ k.expLen) :
    (takeByte b k).Inv := by
  have inProgress := h.inProgress (by simp [hf])
  have room : 1 ≤ (k.rxCnt + 1).toNat ∧ (k.rxCnt + 1).toNat < k.expLen.toNat := by
    have := h.rxCnt_recv hf
    bv_omega
  obtain ⟨respTimer, -⟩ := h.timers (.inr hf)
  exact (inProgress.takeByte b).inv (by simp [hf]) (fun _ => room) (by simp [hf])
    (fun _ => ⟨respTimer, by simp⟩)

theorem takeFirstByte_inv (b : Byte) {k : CoreState} (h : k.Inv) (hf : k.fsm = .wait) : (takeFirstByte b k).Inv := by
  have inProgress := h.inProgress (by simp [hf])
  have same : InProgress (takeFirstByte b k) := { inProgress with reports := { inProgress.reports with } }
  obtain ⟨-, -, -, -, -, expLen⟩ := inProgress.request
  obtain ⟨respTimer, -⟩ := h.timers (.inl hf)
  exact same.inv (by simp) (fun _ => ⟨by simp, by simp [expLen]; omega⟩) (by simp) (fun _ => ⟨respTimer, by simp⟩)

theorem rxByteEvent_inv (b : Byte) {k : CoreState} (h : k.Inv) : (rxByteEvent b k).Inv := by
  cases hf : k.fsm with
  | idle => rwa [rxByteEvent_idle b k hf]
  | tx => rwa [rxByteEvent_tx b k hf]
  | wait => rw [rxByteEvent_wait b k hf]; exact takeFirstByte_inv b h hf
  | recv =>
    rw [rxByteEvent_recv b k hf]
    split
    · exact frameEnd_inv ((h.inProgress (by simp [hf])).takeByte b)
    next hc => exact takeByte_inv h hf hc

/-- A timer that has not expired is below the limit that R288 gives it. -/
theorem lt_of_not_expired {timer limit : Word} (h : ¬expired timer limit = true) :
    timer.toNat < max 1 limit.toNat := by
  simp only [expired, decide_eq_true_eq] at h
  omega

theorem tickEvent_inv {k : CoreState} (h : k.Inv) : (tickEvent k).Inv := by
  cases hf : k.fsm with
  | idle => rwa [tickEvent_idle k hf]
  | tx => rwa [tickEvent_tx k hf]
  | wait =>
    have counted := (h.inProgress (by simp [hf])).countWait
    obtain ⟨-, ibTimer⟩ := h.timers (.inl hf)
    rw [tickEvent_wait k hf]
    split
    · exact raise_inv counted rfl
    next hexp =>
      exact counted.inv (by simp [hf, h.rxCnt_zero]) (by simp [hf]) (by simp [hf])
        (fun _ => ⟨lt_of_not_expired hexp, ibTimer⟩)
  | recv =>
    have counted := (h.inProgress (by simp [hf])).countRecv
    rw [tickEvent_recv k hf]
    split
    · exact frameEnd_inv counted
    next hib =>
      split
      · exact raise_inv counted rfl
      next hexp =>
        exact counted.inv (by simp [hf]) (fun _ => h.rxCnt_recv hf) (by simp [hf])
          (fun _ => ⟨lt_of_not_expired hexp, lt_of_not_expired hib⟩)

theorem txAcceptEvent_inv {k : CoreState} (h : k.Inv) : (txAcceptEvent k).Inv := by
  by_cases hf : k.fsm = .tx
  · have inProgress := h.inProgress (by simp [hf])
    have rxCnt := h.rxCnt_zero (by simp [hf])
    obtain ⟨-, -, mode⟩ := h.tx_idx hf
    obtain ⟨attempts, -, nreg⟩ := inProgress.reports.ranges
    rw [txAcceptEvent_tx k hf]
    split
    next hi =>
      have txIdx : (k.txIdx + 1).toNat ≤ 7 := by bv_omega
      have sent : InProgress { k with txIdx := k.txIdx + 1 } :=
        { inProgress with reports := { inProgress.reports with ranges := ⟨attempts, by simp only; omega, nreg⟩ } }
      exact sent.inv (fun _ => rxCnt) (by simp [hf]) (fun _ => ⟨txIdx, mode⟩) (by simp [hf])
    · have opened : InProgress (openWindow k) :=
        { inProgress with reports := { inProgress.reports with ranges := ⟨attempts, by simp [openWindow], nreg⟩ } }
      exact opened.inv (fun _ => rxCnt) (by simp [openWindow]) (by simp [openWindow]) (by simp [openWindow])
  · rwa [txAcceptEvent_of_ne k hf]

theorem ioErrorEvent_inv {k : CoreState} (h : k.Inv) : (ioErrorEvent k).Inv := by
  by_cases hf : k.fsm = .idle
  · rwa [ioErrorEvent_idle k hf]
  · rw [ioErrorEvent_busy k hf]
    exact ioError_inv (h.inProgress hf)

/-- The invariant is kept as a relation between the core before and after. -/
theorem inv_eventRelation : EventRelation fun k l => k.Inv → l.Inv where
  refl _ h := h
  trans _ _ _ h h' := h' ∘ h
  rxByte b _ := rxByteEvent_inv b
  tick _ := tickEvent_inv
  txAccept _ := txAcceptEvent_inv
  ioError _ := ioErrorEvent_inv

/-! ### Every command and every host write keeps the invariant -/

theorem reset_inv : CoreState.reset.Inv :=
  inv_of_idle rfl rfl (by simp [CoreState.reset]) (by simp [CoreState.reset]) (by constructor <;> decide)

theorem refuse_inv {k : CoreState} (h : k.Inv) : (refuse k).Inv := { h with }

theorem crcPort_inv {k : CoreState} (c : Word) (h : k.Inv) : { k with crcAcc := c }.Inv := { h with }

theorem clearFlags_inv {k : CoreState} (h : k.Inv) (hf : k.fsm = .idle) : (clearFlags k).Inv :=
  inv_of_idle hf (h.rxCnt_zero (by simp [hf])) (by simp) (by simp) { h.reports with }

/-- A store to the request or configuration is made in IDLE, where the invariant says nothing of them. -/
theorem storeRegister_inv {a : Byte} {v : Word} {k : CoreState} (h : k.Inv) (hf : k.fsm = .idle) :
    (storeRegister a v k).Inv := by
  rw [storeRegister_frame]
  exact inv_of_idle hf (h.rxCnt_zero (by simp [hf])) h.ok_done h.done_ok { h.reports with }

theorem hostWriteRegister_inv (a : Byte) (v : Word) {k : CoreState} (h : k.Inv) : (hostWriteRegister a v k).Inv := by
  rcases hostWriteRegister_cases a v k with ⟨-, -, hf, heq⟩ | ⟨-, -, -, heq⟩ | ⟨-, heq⟩ <;> rw [heq]
  · exact storeRegister_inv h hf
  · exact refuse_inv h
  · exact h

/-- With the results cleared only TX_LEN and tx_idx are left of what an error code rests on. -/
theorem clearResults_reports {e : ErrKind} {k : CoreState} (h : k.Inv) (hr : retryable e = false)
    (hw : e ≠ .transactionFailed) : Reports e (clearResults k) where
  nreg := by simp
  exc_code := by simp
  last_err := .inl rfl
  err_decode := by simp [hr]
  err_wrapped := by simp [hw]
  tx_len := h.tx_len
  ranges := ⟨by simp, h.ranges.2.1, by simp⟩

theorem rejectRequest_inv {k : CoreState} (h : k.Inv) : (rejectRequest (clearResults k)).Inv :=
  complete_inv (by simp) { clearResults_reports h rfl (by simp) with tx_len := .inl rfl }

theorem doEncode_inv {k : CoreState} (h : k.Inv) : (doEncode k).Inv := by
  rcases doEncode_cases k with ⟨-, heq⟩ | ⟨-, heq⟩ <;> rw [heq]
  · exact complete_inv (by simp) { clearResults_reports h rfl (by simp) with tx_len := .inr rfl }
  · exact rejectRequest_inv h

/-- A valid request in the numbers of R160. -/
theorem requestOk_bounds {k : CoreState} (h : requestOk k = true) :
    1 ≤ k.reqUnit.toNat ∧ k.reqUnit.toNat ≤ 247 ∧ k.reqFc = 3 ∧ 1 ≤ k.reqQty.toNat ∧ k.reqQty.toNat ≤ 125 := by
  simpa [requestOk, validRequest, and_assoc] using h

theorem expectedLength_toNat {k : CoreState} (h : requestOk k = true) :
    (expectedLength k).toNat = 5 + 2 * k.reqQty.toNat := by
  obtain ⟨-, -, -, -, qty_le⟩ := requestOk_bounds h
  rw [expectedLength, BitVec.toNat_ofNat, rspLen]
  omega

/-- The request as an accepted DECODE or EXECUTE leaves it. -/
theorem requestOk_inProgress {k : CoreState} (h : requestOk k = true) :
    1 ≤ k.reqUnit.toNat ∧ k.reqUnit.toNat ≤ 247 ∧ k.reqFc = 3 ∧ 1 ≤ k.reqQty.toNat ∧ k.reqQty.toNat ≤ 125
      ∧ (expectedLength k).toNat = 5 + 2 * k.reqQty.toNat := by
  obtain ⟨unit_ge, unit_le, fc, qty_ge, qty_le⟩ := requestOk_bounds h
  exact ⟨unit_ge, unit_le, fc, qty_ge, qty_le, expectedLength_toNat h⟩

theorem startDecode_inv {k : CoreState} (h : k.Inv) (hok : requestOk k = true) : (startDecode (clearResults k)).Inv :=
  have inProgress : InProgress (startDecode (clearResults k)) := {
    done := rfl
    results := ⟨rfl, rfl, rfl, rfl, rfl, rfl, rfl⟩
    request := requestOk_inProgress hok
    execute := fun hm => by cases hm
    decode := fun _ => rfl
    reports := { clearResults_reports h rfl (by simp) with
      err_decode := fun he => by cases he
      err_wrapped := fun he => by cases he } }
  inProgress.inv (fun _ => rfl) (by simp) (by simp) (by simp)

theorem startExecute_inv {k : CoreState} (h : k.Inv) (hok : requestOk k = true) :
    (startExecute (loadRequest (clearResults k))).Inv :=
  have inProgress : InProgress (startExecute (loadRequest (clearResults k))) := {
    done := rfl
    results := ⟨rfl, rfl, rfl, rfl, rfl, rfl, rfl⟩
    request := requestOk_inProgress hok
    execute := fun _ => ⟨rfl, by simp, by simp⟩
    decode := fun hm => by cases hm
    reports := { clearResults_reports h rfl (by simp) with
      err_decode := fun he => by cases he
      err_wrapped := fun he => by cases he
      tx_len := .inr rfl
      ranges := ⟨by simp, by simp, by simp⟩ } }
  inProgress.inv (fun _ => rfl) (by simp) (fun _ => ⟨by simp, rfl⟩) (by simp)

theorem doDecode_inv {k : CoreState} (h : k.Inv) : (doDecode k).Inv := by
  rcases doDecode_cases k with ⟨hok, heq⟩ | ⟨-, heq⟩ <;> rw [heq]
  · exact startDecode_inv h hok
  · exact complete_inv (by simp) (clearResults_reports h rfl (by simp))

theorem doExecute_inv {k : CoreState} (h : k.Inv) : (doExecute k).Inv := by
  rcases doExecute_cases k with ⟨hok, heq⟩ | ⟨-, heq⟩ <;> rw [heq]
  · exact startExecute_inv h hok
  · exact rejectRequest_inv h

theorem CommandEffect.inv {k l : CoreState} {i : Instr} (he : CommandEffect k i l) (h : k.Inv) : l.Inv := by
  cases he with
  | reset => exact reset_inv
  | crcPort _ c => exact crcPort_inv c h
  | refused => exact refuse_inv h
  | encode => exact doEncode_inv h
  | decode => exact doDecode_inv h
  | execute => exact doExecute_inv h
  | clear idle => exact clearFlags_inv h idle

/-! ### The invariant along steps and runs -/

theorem exec_inv {i : Instr} {s t : State} (hs : s.Inv) (h : exec i s = .next t) : t.Inv := by
  cases hi : isEvent i with
  | true => exact inv_eventRelation.exec hi h hs
  | false => exact (exec_commandEffect hi h).inv hs

theorem runEvent_inv {e : Event} {s t : State} (hs : s.Inv) (h : runEvent e s = .next t) : t.Inv := by
  cases e with
  | instr i => exact exec_inv hs h
  | reservedCommand => cases h; exact refuse_inv hs
  | regWrite a v => cases h; exact hostWriteRegister_inv a v hs
  | hostRead a => cases h; exact hs
  | burst f => cases h; exact inv_eventRelation.receiveFrame f _ hs

theorem runAll_inv {es : List Event} {s t : State} (hs : s.Inv) (h : runAll es s = .next t) : t.Inv := by
  induction es generalizing s with
  | nil => cases h; exact hs
  | cons e es ih =>
    obtain ⟨u, hu⟩ := runEvent_total e s
    rw [runAll_cons e es s u hu] at h
    exact ih (runEvent_inv hs hu) h

/-- Settles O49: nothing is in progress and nothing is reported. -/
theorem resetMeetsInvariant : Obligations.ResetMeetsInvariant := reset_inv

/-- Settles O50: a step takes an input, which leaves the core, and then runs at most one event. -/
theorem stepKeepsInvariant : Obligations.StepKeepsInvariant := by
  intro s t hs h
  obtain ⟨u, hcore, hstep⟩ := step_cases s
  have hu : u.Inv := by rwa [State.Inv, hcore]
  rcases hstep with heq | ⟨e, heq⟩ <;> rw [heq] at h
  · cases h
    exact hu
  · exact runEvent_inv hu h

/-- Settles O58: the end meets the invariant, by which DONE excludes BUSY; and a longer run would have passed it with
DONE = 0. -/
theorem runEndIsFinal : Obligations.RunEndIsFinal := by
  intro e es s t hs hend
  have not_busy : busy t.core = false := by
    by_contra hb
    have := (runAll_inv hs hend.leads).busy_done (by simpa using hb)
    simp [hend.done] at this
  refine ⟨(busy_eq_false_iff _).1 not_busy, not_busy, hend.done, fun es' t' hp hend' => ?_⟩
  have same : es = es' := by
    by_contra hne
    have := hend'.first es t hp hne hend.leads
    simp [hend.done] at this
  subst same
  exact ⟨rfl, by simpa using hend'.leads.symm.trans hend.leads⟩

/-! ### What an instruction leaves unchanged -/

theorem Keeps.sameRequest {k l : CoreState} (h : Keeps k l) : sameRequest l k :=
  ⟨h.reqUnit, h.reqFc, h.reqAddr, h.reqQty, h.respTimeout, h.ibTimeout, h.maxRetries⟩

/-- Commands read the request and configuration and write neither (R55). -/
theorem CommandEffect.sameRequest {k l : CoreState} {i : Instr} (he : CommandEffect k i l) (hi : i ≠ .reset) :
    sameRequest l k := by
  have same (k : CoreState) : Machine.sameRequest k k := ⟨rfl, rfl, rfl, rfl, rfl, rfl, rfl⟩
  cases he with
  | reset => exact absurd rfl hi
  | crcPort => exact same k
  | refused => exact same k
  | encode => rcases doEncode_cases k with ⟨-, heq⟩ | ⟨-, heq⟩ <;> rw [heq] <;> exact same k
  | decode => rcases doDecode_cases k with ⟨-, heq⟩ | ⟨-, heq⟩ <;> rw [heq] <;> exact same k
  | execute => rcases doExecute_cases k with ⟨-, heq⟩ | ⟨-, heq⟩ <;> rw [heq] <;> exact same k
  | clear => exact same k

/-- Settles O53: events keep these registers, and no command but Reset writes one. -/
theorem requestAndConfigurationKept : Obligations.RequestAndConfigurationKept := by
  intro i s t h hi
  cases hev : isEvent i with
  | true => exact (exec_event_keeps i s t hev h).sameRequest
  | false => exact (exec_commandEffect hev h).sameRequest hi

/-- Only an accepted ENCODE or EXECUTE writes the frame to send (R41). -/
theorem CommandEffect.txbuf_txLen {k l : CoreState} {i : Instr} (he : CommandEffect k i l) (hi : i ≠ .reset)
    (hacc : (i ≠ .encode ∧ i ≠ .execute) ∨ k.fsm ≠ .idle) : l.txbuf = k.txbuf ∧ l.txLen = k.txLen := by
  cases he with
  | reset => exact absurd rfl hi
  | crcPort => exact ⟨rfl, rfl⟩
  | refused => exact ⟨rfl, rfl⟩
  | encode idle => simp [idle] at hacc
  | decode => rcases doDecode_cases k with ⟨-, heq⟩ | ⟨-, heq⟩ <;> rw [heq] <;> exact ⟨rfl, rfl⟩
  | execute idle => simp [idle] at hacc
  | clear => exact ⟨rfl, rfl⟩

/-- Settles O54: events keep TXBUF and TX_LEN, and only an accepted ENCODE or EXECUTE among the commands writes them. -/
theorem txbufWrittenOnlyAtAcceptance : Obligations.TxbufWrittenOnlyAtAcceptance := by
  intro i s t h hi hacc
  cases hev : isEvent i with
  | true =>
    have keeps := exec_event_keeps i s t hev h
    exact ⟨keeps.txbuf, keeps.txLen⟩
  | false => exact (exec_commandEffect hev h).txbuf_txLen hi hacc

/-! ### How an operation in progress goes on -/

/-- The core after a completion (R276): in IDLE with DONE, nothing collected, and OK as ERR says. -/
structure Completed (k : CoreState) : Prop where
  done : k.done = true
  rxCnt : k.rxCnt = 0
  ok_iff : k.ok = true ↔ k.err = .none

/-- The core after a completion with success. -/
structure Succeeded (k : CoreState) : Prop where
  idle : k.fsm = .idle
  done : k.done = true
  ok : k.ok = true
  err : k.err = .none

/-- How the core goes on from `k` to `l` across events: IDLE is left as it is, IDLE is reached by a completion, and REGS
is written by a success only. -/
structure GoesOn (k l : CoreState) : Prop where
  idle : k.fsm = .idle → l = k
  ends : k.fsm ≠ .idle → l.fsm = .idle → Completed l
  regs : l.regs = k.regs ∨ Succeeded l

theorem GoesOn.refl (k : CoreState) : GoesOn k k := ⟨fun _ => rfl, fun hb hi => absurd hi hb, .inl rfl⟩

theorem GoesOn.trans {k l m : CoreState} (h : GoesOn k l) (h' : GoesOn l m) : GoesOn k m where
  idle hi := by
    have heq := h.idle hi
    rw [h'.idle (heq ▸ hi), heq]
  ends hb hi := by
    by_cases hl : l.fsm = .idle
    · rw [h'.idle hl]
      exact h.ends hb hl
    · exact h'.ends hl hi
  regs := by
    rcases h'.regs with hm | hm
    · rw [hm]
      exact h.regs.imp_right fun hl => by rwa [h'.idle hl.idle]
    · exact .inr hm

/-- A move of a busy core that completes nothing. -/
theorem GoesOn.of_busy {k l : CoreState} (hk : k.fsm ≠ .idle) (hl : l.fsm ≠ .idle) (hr : l.regs = k.regs) : GoesOn k l :=
  ⟨fun hi => absurd hi hk, fun _ hi => absurd hi hl, .inl hr⟩

/-- A completion that leaves REGS. -/
theorem GoesOn.of_completed {k l : CoreState} (hk : k.fsm ≠ .idle) (hl : Completed l) (hr : l.regs = k.regs) :
    GoesOn k l :=
  ⟨fun hi => absurd hi hk, fun _ _ => hl, .inl hr⟩

theorem completed_failure {e : ErrKind} (k : CoreState) (he : e ≠ .none) : Completed (complete false e k) :=
  ⟨rfl, rfl, by simp [he]⟩

theorem raise_goesOn {e : ErrKind} {k : CoreState} (hk : k.fsm ≠ .idle) (he : e ≠ .none) : GoesOn k (raise e k) := by
  rcases raise_cases e k with ⟨-, heq⟩ | ⟨-, -, heq⟩ | ⟨-, -, -, heq⟩ | ⟨-, -, -, heq⟩ <;> rw [heq]
  · exact .of_completed hk (completed_failure _ he) rfl
  · exact .of_completed hk (completed_failure _ he) rfl
  · exact .of_busy hk (by simp) rfl
  · exact .of_completed hk (completed_failure _ (by simp)) rfl

theorem frameEnd_goesOn {k : CoreState} (hk : k.fsm ≠ .idle) : GoesOn k (frameEnd k) := by
  rcases frameEnd_cases k with ⟨regs, -, heq⟩ | ⟨code, -, heq⟩ | ⟨e, he, -, heq⟩ <;> rw [heq]
  · exact ⟨fun hi => absurd hi hk, fun _ _ => ⟨rfl, rfl, by simp⟩, .inr ⟨rfl, rfl, rfl, rfl⟩⟩
  · exact .of_completed hk ⟨rfl, rfl, by simp⟩ rfl
  · exact raise_goesOn hk (fun hn => by simp [hn, retryable] at he)

theorem rxByteEvent_goesOn (b : Byte) (k : CoreState) : GoesOn k (rxByteEvent b k) := by
  cases hf : k.fsm with
  | idle => rw [rxByteEvent_idle b k hf]; exact .refl k
  | tx => rw [rxByteEvent_tx b k hf]; exact .refl k
  | wait => rw [rxByteEvent_wait b k hf]; exact .of_busy (by simp [hf]) (by simp) rfl
  | recv =>
    have taken : GoesOn k (takeByte b k) := .of_busy (by simp [hf]) (by simp [hf]) rfl
    rw [rxByteEvent_recv b k hf]
    split
    · exact taken.trans (frameEnd_goesOn (by simp [hf]))
    · exact taken

theorem tickEvent_goesOn (k : CoreState) : GoesOn k (tickEvent k) := by
  cases hf : k.fsm with
  | idle => rw [tickEvent_idle k hf]; exact .refl k
  | tx => rw [tickEvent_tx k hf]; exact .refl k
  | wait =>
    have counted : GoesOn k (countWait k) := .of_busy (by simp [hf]) (by simp [hf]) rfl
    rw [tickEvent_wait k hf]
    split
    · exact counted.trans (raise_goesOn (by simp [hf]) (by simp))
    · exact counted
  | recv =>
    have counted : GoesOn k (countRecv k) := .of_busy (by simp [hf]) (by simp [hf]) rfl
    rw [tickEvent_recv k hf]
    split
    · exact counted.trans (frameEnd_goesOn (by simp [hf]))
    · split
      · exact counted.trans (raise_goesOn (by simp [hf]) (by simp))
      · exact counted

theorem txAcceptEvent_goesOn (k : CoreState) : GoesOn k (txAcceptEvent k) := by
  by_cases hf : k.fsm = .tx
  · rw [txAcceptEvent_tx k hf]
    split
    · exact .of_busy (by simp [hf]) (by simp [hf]) rfl
    · exact .of_busy (by simp [hf]) (by simp [openWindow]) rfl
  · rw [txAcceptEvent_of_ne k hf]
    exact .refl k

theorem ioErrorEvent_goesOn (k : CoreState) : GoesOn k (ioErrorEvent k) := by
  by_cases hf : k.fsm = .idle
  · rw [ioErrorEvent_idle k hf]
    exact .refl k
  · rw [ioErrorEvent_busy k hf]
    exact .of_completed hf (completed_failure k (by simp)) rfl

theorem goesOn_eventRelation : EventRelation GoesOn where
  refl := .refl
  trans _ _ _ := .trans
  rxByte := rxByteEvent_goesOn
  tick := tickEvent_goesOn
  txAccept := txAcceptEvent_goesOn
  ioError := ioErrorEvent_goesOn

theorem CommandEffect.regs {k l : CoreState} {i : Instr} (he : CommandEffect k i l) (hi : i ≠ .reset) :
    l.regs = k.regs := by
  cases he with
  | reset => exact absurd rfl hi
  | crcPort => rfl
  | refused => rfl
  | encode => rcases doEncode_cases k with ⟨-, heq⟩ | ⟨-, heq⟩ <;> rw [heq] <;> rfl
  | decode => rcases doDecode_cases k with ⟨-, heq⟩ | ⟨-, heq⟩ <;> rw [heq] <;> rfl
  | execute => rcases doExecute_cases k with ⟨-, heq⟩ | ⟨-, heq⟩ <;> rw [heq] <;> rfl
  | clear => rfl

/-- No command but Reset ends an operation in progress. -/
theorem CommandEffect.fsm_of_busy {k l : CoreState} {i : Instr} (he : CommandEffect k i l) (hi : i ≠ .reset)
    (hk : k.fsm ≠ .idle) : l.fsm = k.fsm := by
  cases he with
  | reset => exact absurd rfl hi
  | crcPort => rfl
  | refused => rfl
  | encode idle | decode idle | execute idle | clear idle => exact absurd idle hk

/-- Settles O52: commands keep REGS, and events write it in a success only. -/
theorem regsChangeOnlyOnSuccess : Obligations.RegsChangeOnlyOnSuccess := by
  intro i s t h hi hchange
  cases hev : isEvent i with
  | true =>
    obtain ⟨idle, done, ok, err⟩ := (goesOn_eventRelation.exec hev h).regs.resolve_left hchange
    exact ⟨idle, done, ok, err⟩
  | false => exact absurd ((exec_commandEffect hev h).regs hi) hchange

/-- Settles O55: events reach IDLE by a completion, and no command but Reset leaves a busy state. -/
theorem busyEndsOnlyByCompletion : Obligations.BusyEndsOnlyByCompletion := by
  intro i s t h hi hbusy hidle
  cases hev : isEvent i with
  | true =>
    obtain ⟨done, rxCnt, ok_iff⟩ := (goesOn_eventRelation.exec hev h).ends hbusy hidle
    exact ⟨done, rxCnt, ok_iff⟩
  | false =>
    have fsm := (exec_commandEffect hev h).fsm_of_busy hi hbusy
    exact absurd (fsm ▸ hidle) hbusy

/-! ### The register map (R20, R72) -/

theorem hostReadValue_err (k : CoreState) : hostReadValue 0x02 k = (errCode k.err).setWidth 16 := rfl

theorem hostReadValue_lastErr (k : CoreState) : hostReadValue 0x03 k = (errCode k.lastErr).setWidth 16 := rfl

/-- The addresses without a register of their own: the two buffers, and the write-only and reserved ones. -/
theorem hostReadValue_of_buffer {a : Byte} (k : CoreState) (h : a = 0x00 ∨ 0x13 ≤ a.toNat) :
    hostReadValue a k =
      if 0x20 ≤ a.toNat ∧ a.toNat ≤ 0x27 then (k.txbuf.getD (a.toNat - 0x20) 0).setWidth 16
      else if 0x80 ≤ a.toNat ∧ a.toNat ≤ 0xFC then k.regs.getD (a.toNat - 0x80) 0
      else 0 := by
  have h' : a.toNat = 0 ∨ 0x13 ≤ a.toNat := h.imp_left fun h0 => by rw [h0]; rfl
  unfold hostReadValue
  split
  case h_19 => rfl
  all_goals omega

theorem hostReadValue_regs (k : CoreState) (i : Fin 125) : hostReadValue (BitVec.ofNat 8 (0x80 + i)) k = k.regs[i] := by
  have addr : (BitVec.ofNat 8 (0x80 + i)).toNat = 0x80 + i := by rw [BitVec.toNat_ofNat]; omega
  rw [hostReadValue_of_buffer k (by omega), addr, if_neg (by omega), if_pos (by omega)]
  simp [Vector.getD]

theorem hostReadValue_txbuf (k : CoreState) (i : Fin 8) :
    hostReadValue (BitVec.ofNat 8 (0x20 + i)) k = (k.txbuf[i]).setWidth 16 := by
  have addr : (BitVec.ofNat 8 (0x20 + i)).toNat = 0x20 + i := by rw [BitVec.toNat_ofNat]; omega
  rw [hostReadValue_of_buffer k (by omega), addr, if_pos (by omega)]
  simp [Vector.getD]

theorem hostReadValue_reserved {a : Byte} (k : CoreState)
    (h : a = 0x00 ∨ (0x13 ≤ a.toNat ∧ a.toNat ≤ 0x1F) ∨ (0x28 ≤ a.toNat ∧ a.toNat ≤ 0x7F) ∨ 0xFD ≤ a.toNat) :
    hostReadValue a k = 0 := by
  rcases h with rfl | h
  · rfl
  · rw [hostReadValue_of_buffer k (.inr (by omega)), if_neg (by omega), if_neg (by omega)]

/-- Settles O39: address by address, the codes of R270 by their table; a register narrower than 16 bits is
zero-extended. -/
theorem hostReadMap : Obligations.HostReadMap := by
  intro k
  refine ⟨?_, hostReadValue_regs k, fun i => ?_, fun a => hostReadValue_reserved k⟩
  · refine ⟨?err, ?lastErr, ?_, ?_, rfl, rfl, ?_, rfl, rfl, rfl, rfl, ?_, ?_, ?_, ?_, ?_, rfl⟩
    case err => rw [hostReadValue_err]; cases k.err <;> rfl
    case lastErr => rw [hostReadValue_lastErr]; cases k.lastErr <;> rfl
    all_goals exact BitVec.toNat_setWidth_of_le (by decide)
  · rw [hostReadValue_txbuf]
    exact BitVec.toNat_setWidth_of_le (by decide)

/-! ### A host write to a register -/

theorem hostWriteEvent_register {a : Byte} (v : Word) (h0 : a ≠ 0x00) (h13 : a ≠ 0x13) :
    hostWriteEvent a v = .regWrite a v := by
  have not_command : decodeHostWrite a v = .error .plainRegister := by
    rw [decodeHostWrite, if_neg h0, if_neg h13]
  simp [hostWriteEvent, decode, not_command]

/-- A clock cycle in which the host writes an address other than CMD and CRC_DATA, and nothing else happens. -/
theorem step_registerWrite {a : Byte} (v : Word) (s : State) (xs : List Input) (h0 : a ≠ 0x00) (h13 : a ≠ 0x13) :
    step (present (.cycle { Cycle.quiet with host := .write a v })
        { s with port := { s.port with inputs := xs, events := [] } })
      = .next { core := hostWriteRegister a v s.core, port := { s.port with inputs := xs, events := [] } } := by
  have events (k : CoreState) :
      inputEvents k (.cycle { Cycle.quiet with host := .write a v }) = [.regWrite a v] :=
    (cycleEvents_hostWrite k a v).trans (by rw [hostWriteEvent_register v h0 h13])
  rw [step_present _ _ _ _ (events _), takenAnyway_cycle]
  simp [Cycle.quiet, runEvent, State.mapCore]

/-- Settles O43: none of these addresses is read-write, and none is CMD or CRC_DATA. -/
theorem otherWritesChangeNothing : Obligations.OtherWritesChangeNothing := by
  intro a v s xs ha
  have unchanged : hostWriteRegister a v s.core = s.core := by
    rw [hostWriteRegister, if_neg (by omega)]
  rw [step_registerWrite v s xs (by rintro rfl; simp at ha) (by rintro rfl; simp at ha), unchanged]

/-- A store as one update of the seven read-write registers, each at its own address. -/
theorem storeRegister_eq (a : Byte) (v : Word) (k : CoreState) :
    storeRegister a v k = { k with
      respTimeout := if a = 0x06 then v else k.respTimeout
      ibTimeout := if a = 0x07 then v else k.ibTimeout
      maxRetries := if a = 0x08 then loByte v else k.maxRetries
      reqUnit := if a = 0x09 then v else k.reqUnit
      reqFc := if a = 0x0A then v else k.reqFc
      reqAddr := if a = 0x0B then v else k.reqAddr
      reqQty := if a = 0x0C then v else k.reqQty } := by
  have addr (n : Nat) (hn : a.toNat = n) : a = BitVec.ofNat 8 n := by
    rw [← hn, BitVec.ofNat_toNat, BitVec.setWidth_eq]
  unfold storeRegister
  split
  case h_8 h6 h7 h8 h9 hA hB hC =>
    have ne (n : Byte) (hn : a.toNat ≠ n.toNat) : a ≠ n := fun h => hn (h ▸ rfl)
    simp only [ne 0x06 h6, ne 0x07 h7, ne 0x08 h8, ne 0x09 h9, ne 0x0A hA, ne 0x0B hB, ne 0x0C hC, if_false]
  all_goals
    rename_i hn
    obtain rfl := addr _ hn
    rfl

theorem loByte_setWidth (v : Word) : (loByte v).setWidth 16 = v &&& 0x00FF := by
  apply BitVec.eq_of_toNat_eq
  rw [BitVec.toNat_setWidth_of_le (by decide), loByte_toNat, BitVec.toNat_and]
  exact (Nat.and_two_pow_sub_one_eq_mod v.toNat 8).symm

theorem hostReadValue_storeRegister_same {a : Byte} (v : Word) (k : CoreState) (h : 0x06 ≤ a.toNat)
    (h' : a.toNat ≤ 0x0C) : hostReadValue a (storeRegister a v k) = if a = 0x08 then v &&& 0x00FF else v := by
  have addr : a = 0x06 ∨ a = 0x07 ∨ a = 0x08 ∨ a = 0x09 ∨ a = 0x0A ∨ a = 0x0B ∨ a = 0x0C := by bv_omega
  rcases addr with rfl | rfl | rfl | rfl | rfl | rfl | rfl
  case inr.inr.inl => exact loByte_setWidth v
  all_goals rfl

theorem hostReadValue_storeRegister_other {a b : Byte} (v : Word) (k : CoreState) (h : b ≠ a) :
    hostReadValue b (storeRegister a v k) = hostReadValue b k := by
  rw [storeRegister_eq]
  unfold hostReadValue
  split
  case h_6 | h_7 | h_8 | h_9 | h_10 | h_11 | h_12 =>
    dsimp only
    rw [if_neg]
    bv_omega
  all_goals rfl

/-- Settles O41: in IDLE the write is a store, which changes what its own address reads and no other. -/
theorem registerWriteReadsBack : Obligations.RegisterWriteReadsBack := by
  intro a v s xs hidle ha ha'
  have stored : hostWriteRegister a v s.core = storeRegister a v s.core := by
    rw [hostWriteRegister, if_pos ⟨ha, ha'⟩, if_neg (by simp [busy_iff, hidle])]
  refine ⟨storeRegister a v s.core, ?_, hostReadValue_storeRegister_same v _ ha ha',
    fun b hb => hostReadValue_storeRegister_other v _ hb, ?_⟩
  · rw [step_registerWrite v s xs (by rintro rfl; simp at ha) (by rintro rfl; simp at ha'), stored]
  · rw [storeRegister_eq]
    exact ⟨rfl, rfl, rfl, rfl, rfl, rfl, rfl, rfl, rfl, rfl⟩

/-! ### The events of a clock cycle (R322) -/

/-- Settles O45: without `rst` the events are those of the strobes and then the host access; `tx_fire` is `tx_ready`
in TX. -/
theorem cycleEventsInFixedOrder : Obligations.CycleEventsInFixedOrder := by
  intro k c
  cases hrst : c.rst with
  | true => simp [cycleEvents, hrst]
  | false =>
    have fire : txFire k c = true ↔ c.txReady = true ∧ k.fsm = .tx := by
      rw [txFire, Bool.and_eq_true, txValid_iff, and_comm]
    rw [cycleEvents_of_not_rst k c hrst]
    simp only [strobesBeforeTx, txFireEvents, fire, Bool.false_eq_true, if_false]

/-! ### STATUS -/

/-- The fields of a word laid out as R22 lays out STATUS: a table of 128 rows. -/
theorem status_fields (m : BitVec 1) (f : BitVec 2) (c o d b : Bool) :
    let v : Word := 0#9 ++ m ++ f ++ BitVec.ofBool c ++ BitVec.ofBool o ++ BitVec.ofBool d ++ BitVec.ofBool b
    v.getLsbD 0 = b ∧ v.getLsbD 1 = d ∧ v.getLsbD 2 = o ∧ v.getLsbD 3 = c ∧ v.extractLsb' 4 2 = f
      ∧ v.getLsbD 6 = m.getLsbD 0 ∧ v.extractLsb' 7 9 = 0 := by
  revert m f c o d b
  decide

theorem busy_eq_decide (k : CoreState) : busy k = decide (k.fsm ≠ .idle) := by
  rw [Bool.eq_iff_iff, busy_iff, decide_eq_true_iff]

theorem txValid_eq_decide (k : CoreState) : txValid k = decide (k.fsm = .tx) := by
  rw [Bool.eq_iff_iff, txValid_iff, decide_eq_true_iff]

theorem modeCode_bit (m : Mode) : (modeCode m).getLsbD 0 = decide (m = .decode) := by cases m <;> rfl

theorem txData_of_tx (k : CoreState) (h : k.txIdx.toNat < 8) (hf : k.fsm = .tx) :
    txData k = k.txbuf[k.txIdx.toNat] := by
  rw [txData, if_pos ((txValid_iff k).2 hf)]
  simp [Vector.getD, h]

theorem txData_of_ne (k : CoreState) (hf : k.fsm ≠ .tx) : txData k = 0x00 := by
  rw [txData, if_neg (by rwa [txValid_iff])]

/-- Settles O38: the fields of STATUS by the layout of its word, the outputs by their equations. -/
theorem statusLayout : Obligations.StatusLayout := by
  intro k
  obtain ⟨hbusy, hdone, hok, hcmdErr, hfsm, hmode, hrest⟩ :=
    status_fields (modeCode k.mode) (fsmCode k.fsm) k.cmdErr k.ok k.done (busy k)
  exact ⟨hbusy.trans (busy_eq_decide k), hdone, hok, hcmdErr, hfsm, hmode.trans (modeCode_bit k.mode), hrest,
    txValid_eq_decide k, txData_of_tx k, txData_of_ne k, hbusy.symm⟩

end Sys2Proof.Machine
end

/-! PROOFS. The ports (20_memory.md): whole frames on the two streams, the quiet of IDLE, and a register write that BUSY
refuses. -/

section
namespace Sys2Proof.Machine

/-! ### A whole frame on the TX stream (R73, R223; log 4) -/

theorem offersFrame_iff (f : List Byte) (k : CoreState) :
    offersFrame f k = true ↔ k.fsm = .tx ∧ k.txIdx = 0 ∧ k.txbuf.toList = f := by
  simp [offersFrame, txValid_iff, and_assoc]

/-- The byte offered stands before the bytes still to come. -/
theorem txbuf_drop_eq_cons (v : Vector Byte 8) {i : Nat} (hi : i < 8) :
    v.toList.drop i = v.getD i 0 :: v.toList.drop (i + 1) := by
  rw [List.drop_eq_getElem_cons (by simpa using hi)]
  simp [Vector.getD, hi]

/-- What is left of TXBUF is handed over in order, and its last byte opens the response window: an induction over the
bytes before the last. -/
theorem acceptBytes_rest (n : Nat) (s : State) (hf : s.core.fsm = .tx) (hn : s.core.txIdx.toNat + n = 7) :
    acceptBytes (n + 1) s =
      { core := openWindow s.core
        port := { s.port with txStream := s.port.txStream ++ s.core.txbuf.toList.drop s.core.txIdx.toNat } } := by
  induction n generalizing s with
  | zero =>
    have last : s.core.txbuf.toList.drop (s.core.txIdx.toNat + 1) = [] := by simp; omega
    rw [acceptBytes, acceptByte_last s hf (by omega), txbuf_drop_eq_cons _ (by omega), last]
    rfl
  | succ n ih =>
    have next : (s.core.txIdx + 1).toNat = s.core.txIdx.toNat + 1 := by bv_omega
    rw [acceptBytes, acceptByte_tx s hf (by omega), ih _ (by exact hf) (by simp only [next]; omega),
      txbuf_drop_eq_cons s.core.txbuf (show s.core.txIdx.toNat < 8 by omega)]
    simp only [next, openWindow, List.append_assoc, List.singleton_append]

/-- Settles O22: a frame that the core offers is the whole of TXBUF, taken from its first byte on. -/
theorem wholeRequestFrame : Obligations.WholeRequestFrame := by
  intro unit addr qty crc s
  refine (execReqRhr_eq unit addr qty crc s).trans ?_
  simp only [offersFrame_iff]
  split
  next offered =>
    obtain ⟨hf, hidx, hbuf⟩ := offered
    rw [acceptBytes_rest 7 s hf (by simp [hidx]), hidx, ← hbuf]
    rfl
  next => rfl

/-! ### The request of an EXECUTE on the TX stream (R101, R221) -/

theorem execute_of_requestOk (s : State) (hf : s.core.fsm = .idle) (hok : requestOk s.core = true) :
    exec .execute s = .next (s.mapCore fun k => startExecute (loadRequest (clearResults k))) := by
  have accepted : whenIdle doExecute s.core = startExecute (loadRequest (clearResults s.core)) := by
    rw [whenIdle_of_idle _ _ hf, doExecute, if_pos hok]
  exact congrArg Host.Outcome.next (congrArg (State.mk · s.port) accepted)

/-- The body of R101 byte by byte: a quantity up to 125 leaves its high byte 0. -/
theorem requestBody_eq (unit : Byte) (addr : Word) {qty : Word} (h : qty.toNat ≤ 125) :
    [unit, fcRhr] ++ bigEndian addr ++ bigEndian qty
      = [unit, 0x03, (addr >>> 8).setWidth 8, addr.setWidth 8, 0x00, qty.setWidth 8] := by
  have qty_hi : hiByte qty = 0x00 := by
    apply BitVec.eq_of_toNat_eq
    rw [hiByte_toNat, Nat.div_eq_of_lt (by omega)]
    rfl
  simp [bigEndian, qty_hi, loByte_eq_setWidth, hiByte_eq_shift]

theorem requestFrame_toList {k : CoreState} (hok : requestOk k = true) :
    (requestFrame k).toList = reqBytes (k.reqUnit.setWidth 8) k.reqAddr k.reqQty
      (crc16 ([k.reqUnit.setWidth 8, fcRhr] ++ bigEndian k.reqAddr ++ bigEndian k.reqQty)) := by
  obtain ⟨-, -, fc, -, -⟩ := requestOk_bounds hok
  have fc_lo : loByte k.reqFc = fcRhr := by rw [fc]; rfl
  simp [requestFrame, encodeAdu, reqBytes, bigEndian, littleEndian, fc_lo, loByte_eq_setWidth]

theorem execAll_cons {i : Instr} {s t : State} (is : List Instr) (h : exec i s = .next t) :
    execAll (i :: is) s = execAll is t := by
  simp only [execAll, h]

/-- Settles O21: the accepted EXECUTE offers the whole frame of the request, which the transport then takes. -/
theorem requestGoesOutAsLaidOut : Obligations.RequestGoesOutAsLaidOut := by
  intro s hidle unit_ge unit_le fc qty_ge qty_le k body c
  have hok : requestOk k = true := by simp [requestOk, validRequest, k, unit_ge, unit_le, fc, qty_ge, qty_le]
  have layout : [k.reqUnit.setWidth 8, fcRhr] ++ bigEndian k.reqAddr ++ bigEndian k.reqQty = body :=
    requestBody_eq _ _ qty_le
  have frame : (requestFrame k).toList = reqBytes (k.reqUnit.setWidth 8) k.reqAddr k.reqQty c := by
    rw [requestFrame_toList hok, layout]
  have sent := wholeRequestFrame (k.reqUnit.setWidth 8) k.reqAddr k.reqQty c
    (s.mapCore fun k => startExecute (loadRequest (clearResults k)))
  rw [if_pos ⟨rfl, rfl, frame⟩, reqBytes, layout, ← List.append_assoc] at sent
  have accepted := execute_of_requestOk s hidle hok
  refine ⟨_, (execAll_cons _ accepted).trans (execAll_cons _ sent), ?_, rfl, rfl, rfl, rfl, rfl⟩
  rw [littleEndian, hiByte_eq_shift]
  rfl

/-! ### A whole frame on the RX stream (R74, R184; log 3) -/

theorem execAll_map_rxByte (f : List Byte) (s : State) :
    execAll (f.map .rxByte) s = .next (s.mapCore (deliver f)) := by
  induction f generalizing s with
  | nil => rfl
  | cons b f ih => exact ih (s.mapCore (rxByteEvent b))

theorem execAll_replicate_tick (n : Nat) (s : State) :
    execAll (List.replicate n .tick) s = .next (s.mapCore (ticks n)) := by
  induction n generalizing s with
  | zero => rfl
  | succ n ih => exact ih (s.mapCore tickEvent)

/-- The number of Ticks is that of the state before the bytes, which keep IB_TIMEOUT. -/
theorem execAll_receiveFrame (f : List Byte) (s : State) :
    execAll (f.map .rxByte ++ List.replicate (max 1 s.core.ibTimeout.toNat) .tick) s
      = .next (s.mapCore (receiveFrame f)) := by
  rw [execAll_append _ _ _ _ (execAll_map_rxByte f s), execAll_replicate_tick]
  rfl

/-- A step that presents bytes on the RX stream which make no frame of the table delivers them as a burst. -/
theorem step_burst (f : List Byte) (e : DecodeError) (s : State) (h : decode .rxWire f = .error e) :
    step (present (.rxFrame f) s)
      = .next (State.mapCore (receiveFrame f) { s with port := { s.port with events := [] } }) := by
  have events : inputEvents s.core (.rxFrame f) = [.burst f] := by simp [inputEvents, h]
  rw [step_present _ _ _ _ events]
  simp [takenAnyway, runEvent]

/-- Settles O35: either side is the delivery of the bytes and then the Ticks. -/
theorem frameIsItsBytesThenSilence : Obligations.FrameIsItsBytesThenSilence := by
  constructor
  · rintro i s (⟨unit, byteCount, regs, crc, rfl⟩ | ⟨unit, func, code, crc, rfl⟩)
    · exact (execAll_receiveFrame _ s).symm
    · exact (execAll_receiveFrame _ s).symm
  · intro f e s h
    rw [step_burst f e s h]
    exact (execAll_receiveFrame f _).symm

/-! ### IDLE (R187, R226, R230, R240) -/

theorem mapCore_of_fixed {f : CoreState → CoreState} {s : State} (h : f s.core = s.core) : s.mapCore f = s := by
  rw [State.mapCore, h]

/-- Outside TX nothing is taken from the TX stream (R240). -/
theorem exec_reqRhr_of_ne (unit : Byte) (addr qty crc : Word) (s : State) (h : s.core.fsm ≠ .tx) :
    exec (.reqRhr unit addr qty crc) s = .next s := by
  rw [wholeRequestFrame, if_neg (by simp [h])]

theorem receiveFrame_idle (f : List Byte) (k : CoreState) (h : k.fsm = .idle) : receiveFrame f k = k :=
  (goesOn_eventRelation.receiveFrame f k).idle h

theorem exec_event_idle {i : Instr} {s : State} (hi : isEvent i = true) (h : s.core.fsm = .idle) :
    exec i s = .next s := by
  cases i
  case reqRhr => exact exec_reqRhr_of_ne _ _ _ _ s (by simp [h])
  case rspRhr => exact congrArg Host.Outcome.next (mapCore_of_fixed (receiveFrame_idle _ _ h))
  case rspExc => exact congrArg Host.Outcome.next (mapCore_of_fixed (receiveFrame_idle _ _ h))
  case nop => rfl
  case ioErr => exact congrArg Host.Outcome.next (mapCore_of_fixed (ioErrorEvent_idle _ h))
  case rxByte b => exact congrArg Host.Outcome.next (mapCore_of_fixed (rxByteEvent_idle b _ h))
  case tick => exact congrArg Host.Outcome.next (mapCore_of_fixed (tickEvent_idle _ h))
  case txAccept => exact congrArg Host.Outcome.next (acceptByte_of_ne s (by simp [h]))
  all_goals cases hi

/-- Settles O56: the instructions left are the frames, the strobes and NOP. -/
theorem idleIsQuiet : Obligations.IdleIsQuiet := by
  intro i s hidle hencode hdecode hexecute hcrcInit hclear hcrcData hreset
  refine exec_event_idle ?_ hidle
  cases i
  case encode => exact absurd rfl hencode
  case decode => exact absurd rfl hdecode
  case execute => exact absurd rfl hexecute
  case crcInit => exact absurd rfl hcrcInit
  case clear => exact absurd rfl hclear
  case crcData v => exact absurd rfl (hcrcData v)
  case reset => exact absurd rfl hreset
  all_goals rfl

/-! ### A register write while BUSY (R72, R234) -/

/-- Settles O42: these are the read-write registers, and BUSY refuses the write. -/
theorem registerWriteWhileBusyIsRefused : Obligations.RegisterWriteWhileBusyIsRefused := by
  intro a v s xs hbusy ha ha'
  have refused : hostWriteRegister a v s.core = refuse s.core := by
    rw [hostWriteRegister, if_pos ⟨ha, ha'⟩, if_pos ((busy_iff _).2 hbusy)]
  rw [step_registerWrite v s xs (by rintro rfl; simp at ha) (by rintro rfl; simp at ha'), refused]
  rfl

end Sys2Proof.Machine
end

/-! PROOFS. The encodings (30_encoding.md): decoding and encoding undo each other, and what the frames of R102 and R103,
taken as one instruction each, come to. -/

section
namespace Sys2Proof.Machine

/-! ### Decoding and encoding (R100 to R112) -/

/-- Settles O47: `decode_encode` of every instruction. -/
theorem decodeAfterEncode : Obligations.DecodeAfterEncode := decode_encode

/-- Settles O46: each word is the encoding of its instruction, but for the reserved command, which has none. -/
theorem sampleWordsDecode : Obligations.SampleWordsDecode :=
  ⟨decode_encode .execute, decode_encode (.crcData 0xAB01), rfl, decode_encode .reset, decode_encode (.rxByte 0x5A),
    decode_encode (.reqRhr 0x01 0x0300 0x0006 0x8CC5), decode_encode (.rspRhr 0x01 0x02 [0x1234] 0x33B5),
    decode_encode (.rspExc 0x01 0x03 0x02 0xF1C0)⟩

/-- Each code of R108 has the one word `0x00, hi, lo`. -/
theorem encode_of_decodeCommand {v : Word} {i : Instr} (h : decodeCommand v = .ok i) :
    encode i = (.hostWrite, [0x00, hiByte v, loByte v]) := by
  have word : v = BitVec.ofNat 16 v.toNat := by simp
  unfold decodeCommand at h
  split at h
  case h_7 => cases h
  all_goals
    next code =>
      rw [code] at word
      subst word
      cases h
      rfl

theorem encode_of_decodeHostWrite {a : Byte} {v : Word} {i : Instr} (h : decodeHostWrite a v = .ok i) :
    encode i = (.hostWrite, [a, hiByte v, loByte v]) := by
  unfold decodeHostWrite at h
  split at h
  next addr => rw [addr, encode_of_decodeCommand h]
  split at h
  next addr => cases h; rw [addr]; rfl
  · cases h

theorem encode_of_decodeTx {bs : List Byte} {i : Instr} (h : decodeTx bs = .ok i) : encode i = (.txWire, bs) := by
  unfold decodeTx at h
  split at h
  · split at h
    next func => cases h; simp [encode, reqBytes, bigEndian, littleEndian, func]
    · cases h
  · cases h

/-- What splits into register values and a CRC is their bytes: an induction along the pairs. -/
theorem eq_of_splitRegs {bs : List Byte} {regs : List Word} {crc : Word} (h : splitRegs bs = some (regs, crc)) :
    bs = regs.flatMap bigEndian ++ littleEndian crc := by
  induction bs using splitRegs.induct generalizing regs with
  | case1 lo hi =>
    cases h
    simp [littleEndian]
  | case2 hi lo b rest regs' crc' hs ih =>
    rw [splitRegs_pair _ _ _ (List.cons_ne_nil _ _), hs] at h
    cases h
    simp [bigEndian, ih hs]
  | case3 hi lo b rest hs =>
    rw [splitRegs_pair _ _ _ (List.cons_ne_nil _ _), hs] at h
    cases h
  | case4 => simp [splitRegs] at h

theorem excFunction_extractLsb' {fc : Byte} (h : fc.getLsbD 7 = true) : excFunction (fc.extractLsb' 0 7) = fc := by
  have whole : BitVec.cons fc.msb (fc.setWidth 7) = fc := BitVec.cons_msb_setWidth fc
  rw [show fc.msb = true from h] at whole
  exact whole

theorem encode_of_decodeRx {bs : List Byte} {i : Instr} (h : decodeRx bs = .ok i) : encode i = (.rxWire, bs) := by
  unfold decodeRx at h
  repeat' split at h
  all_goals cases h
  next bit7 _ _ _ _ => simp [encode, excBytes, littleEndian, excFunction_extractLsb' bit7]
  next func _ _ _ _ _ _ pairs => simp [encode, rspBytes, func, eq_of_splitRegs pairs]

/-- Settles O48: port by port, the decoder's table read backwards. -/
theorem encodeAfterDecode : Obligations.EncodeAfterDecode := by
  intro p bs i hp h
  cases p with
  | hostWrite =>
    obtain ⟨a, hi, lo, rfl⟩ := decode_hostWrite_ok bs i h
    simpa using encode_of_decodeHostWrite h
  | strobe => exact absurd rfl hp
  | txWire => exact encode_of_decodeTx h
  | rxWire => exact encode_of_decodeRx h

/-! ### Frames that validate (R102, R103, R189) -/

/-- A frame accepted by all six checks: the converse of `validate_ok`, for a function code below 0x80. -/
theorem validate_eq_ok {f : List Byte} {unit fc qty : Word} (crc : crc16 (f.take (f.length - 2)) = receivedCrc f)
    (bit7 : (loByte fc).getLsbD 7 = false) (unit_eq : frameByte f 0 = loByte unit) (func : frameByte f 1 = loByte fc)
    (length : f.length = rspLen qty.toNat) (count : (frameByte f 2).toNat = 2 * qty.toNat) :
    validate f unit fc qty = .ok (extractRegs f qty.toNat) := by
  have long : ¬f.length < minFrame := by simp only [length, minFrame, rspLen]; omega
  unfold validate
  rw [if_neg long, if_neg (not_not.2 crc), func, if_neg (by rw [bit7]; decide), if_neg (not_not.2 unit_eq),
    if_neg (not_not.2 rfl), if_neg (by simp [length, count])]

/-- An exception frame is recognised before unit and function code are looked at: the converse of
`validate_deviceException`. -/
theorem validate_eq_deviceException {f : List Byte} (unit fc qty : Word)
    (crc : crc16 (f.take (f.length - 2)) = receivedCrc f) (bit7 : (frameByte f 1).getLsbD 7 = true)
    (length : f.length = excLen) : validate f unit fc qty = .deviceException (frameByte f 2) := by
  unfold validate
  rw [if_neg (by rw [length]; decide), if_neg (not_not.2 crc), if_pos bit7, if_pos length]

/-- A body followed by its CRC as R106 lays it out passes the CRC check. -/
theorem crc16_eq_receivedCrc {body : List Byte} {crc : Word} (h : crc = crc16 body) :
    crc16 ((body ++ littleEndian crc).take ((body ++ littleEndian crc).length - 2))
      = receivedCrc (body ++ littleEndian crc) := by
  subst h
  simp [receivedCrc, frameByte, littleEndian]

/-- The pairs of R105 joined again, whatever follows them. -/
theorem map_joinBytes_flatMap_bigEndian (regs : List Word) (tail : List Byte) :
    ((List.range regs.length).map fun i =>
      joinBytes (frameByte (regs.flatMap bigEndian ++ tail) (2 * i))
        (frameByte (regs.flatMap bigEndian ++ tail) (2 * i + 1))) = regs := by
  induction regs with
  | nil => rfl
  | cons w regs ih =>
    rw [List.length_cons, List.range_succ_eq_map, List.map_cons, List.map_map]
    refine congrArg₂ List.cons (joinBytes_hi_lo w) ?_
    exact ih

theorem extractRegs_rspBytes (unit byteCount : Byte) (regs : List Word) (crc : Word) :
    extractRegs (rspBytes unit byteCount regs crc) regs.length = regs := by
  refine Eq.trans ?_ (map_joinBytes_flatMap_bigEndian regs (littleEndian crc))
  refine List.map_congr_left fun i _ => ?_
  rw [Nat.add_comm 3, Nat.add_comm 4]
  rfl

/-- Settles O12: the laid out frame meets the six checks of R189, and its register bytes are the values' pairs. -/
theorem wellFormedResponseIsAccepted : Obligations.WellFormedResponseIsAccepted := by
  intro unit qty regs crc qty_ge qty_le hlen hcrc
  have count : (BitVec.ofNat 8 (2 * qty.toNat)).toNat = 2 * qty.toNat := by
    rw [BitVec.toNat_ofNat]; omega
  have accepted := validate_eq_ok (f := rspBytes (unit.setWidth 8) (BitVec.ofNat 8 (2 * qty.toNat)) regs crc)
    (unit := unit) (fc := 0x0003) (crc16_eq_receivedCrc hcrc) rfl rfl rfl
    (by rw [rspBytes_length, hlen]) count
  rw [accepted, ← hlen, extractRegs_rspBytes]

/-! ### Whole frames in WAIT (R182 to R185; log 3) -/

/-- RXBUF with the bytes of `f` from entry 0 on, and above them what it held. -/
def overwrite (v : Vector Byte 255) (f : List Byte) : Vector Byte 255 := Vector.ofFn fun i => f.getD i v[i]

theorem overwrite_get (v : Vector Byte 255) (f : List Byte) (i : Fin 255) :
    (overwrite v f)[i] = if i.val < f.length then f.getD i 0 else v[i] := by
  by_cases h : i.val < f.length <;> simp [overwrite, h]

theorem overwrite_append_byte (v : Vector Byte 255) (f : List Byte) (b : Byte) :
    overwrite v (f ++ [b]) = (overwrite v f).setIfInBounds f.length b := by
  ext i hi : 1
  rw [Vector.getElem_setIfInBounds]
  rcases lt_trichotomy i f.length with h | rfl | h
  · simp [overwrite, h, h.ne', List.getElem?_append_left]
  · simp [overwrite]
  · simp [overwrite, h.ne, List.getElem?_eq_none, Nat.le_of_lt h, Nat.succ_le_of_lt h]

theorem toList_take_overwrite (v : Vector Byte 255) {f : List Byte} (h : f.length ≤ 255) :
    (overwrite v f).toList.take f.length = f := by
  refine List.ext_getElem (by simpa using h) fun i _ hi => ?_
  simp [overwrite, hi]

/-- The core in RECV that has taken the bytes `f` since it was `k` in WAIT (R182, R183). -/
def received (f : List Byte) (k : CoreState) : CoreState :=
  { k with rxbuf := overwrite k.rxbuf f, rxCnt := BitVec.ofNat 8 f.length, ibTimer := 0, fsm := .recv }

theorem received_keeps (f : List Byte) (k : CoreState) : Keeps k (received f k) := by
  constructor <;> simp only [received]

theorem received_rxCnt_toNat {f : List Byte} (k : CoreState) (h : f.length ≤ 255) :
    (received f k).rxCnt.toNat = f.length := by
  simp only [received, BitVec.toNat_ofNat]; omega

theorem takeFirstByte_eq_received (b : Byte) (k : CoreState) : takeFirstByte b k = received [b] k := by
  have first : k.rxbuf.set 0 b = overwrite k.rxbuf [b] := by
    ext i hi : 1
    cases i with
    | zero => simp [overwrite]
    | succ i => simp [overwrite]
  rw [takeFirstByte, first]
  rfl

theorem takeByte_received (b : Byte) (f : List Byte) (k : CoreState) (h : f.length < 255) :
    takeByte b (received f k) = received (f ++ [b]) k := by
  have counted : (received f k).rxCnt + 1 = BitVec.ofNat 8 (f ++ [b]).length := by
    simp [received, BitVec.ofNat_add]
  rw [takeByte, received_rxCnt_toNat k h.le, counted]
  simp only [received, overwrite_append_byte]

theorem collectedFrame_received {f : List Byte} (k : CoreState) (h : f.length ≤ 255) :
    collectedFrame (received f k) = f := by
  rw [collectedFrame, received_rxCnt_toNat k h]
  exact toList_take_overwrite k.rxbuf h

/-- A byte after `f` ends the frame where it is the last that exp_len expects, and else is collected. -/
theorem rxByteEvent_received (b : Byte) (f : List Byte) (k : CoreState) (h : f.length < 255) :
    rxByteEvent b (received f k) =
      if (f ++ [b]).length = k.expLen.toNat then frameEnd (received (f ++ [b]) k) else received (f ++ [b]) k := by
  have last : (received f k).rxCnt + 1 = (received f k).expLen ↔ (f ++ [b]).length = k.expLen.toNat := by
    simp only [received, List.length_append, List.length_singleton]
    constructor <;> intro h <;> bv_omega
  rw [rxByteEvent_recv b _ rfl, takeByte_received b f k h]
  simp only [last]

/-- Fewer bytes than exp_len are collected: an induction over the bytes, the last one apart. -/
theorem deliver_of_length_lt {f : List Byte} {k : CoreState} (hwait : k.fsm = .wait) (hne : f ≠ [])
    (hlen : f.length < k.expLen.toNat) : deliver f k = received f k := by
  induction f using List.reverseRecOn with
  | nil => exact absurd rfl hne
  | append_singleton f b ih =>
    rw [deliver_append]
    cases f with
    | nil => exact (rxByteEvent_wait b k hwait).trans (takeFirstByte_eq_received b k)
    | cons c f =>
      have bound := k.expLen.isLt
      rw [List.length_append, List.length_singleton] at hlen
      rw [ih (List.cons_ne_nil _ _) (by omega)]
      refine (rxByteEvent_received b (c :: f) k (by omega)).trans (if_neg ?_)
      rw [List.length_append, List.length_singleton]
      omega

/-- The byte that makes the count exp_len ends the frame (R183, R185). -/
theorem deliver_of_length_eq {f : List Byte} {k : CoreState} (hwait : k.fsm = .wait) (hmin : 2 ≤ f.length)
    (hlen : f.length = k.expLen.toNat) : deliver f k = frameEnd (received f k) := by
  have bound := k.expLen.isLt
  have hne : f ≠ [] := List.ne_nil_of_length_pos (by omega)
  obtain ⟨g, b, rfl⟩ : ∃ g b, f = g ++ [b] := ⟨_, _, (List.dropLast_append_getLast hne).symm⟩
  have glen := hlen
  rw [List.length_append, List.length_singleton] at glen hmin
  have before : deliver g k = received g k :=
    deliver_of_length_lt hwait (List.ne_nil_of_length_pos (by omega)) (by omega)
  rw [deliver_append, before]
  exact (rxByteEvent_received b g k (by omega)).trans (if_pos hlen)

/-- A frame that its length ends and that validates is the response; the Ticks after it find IDLE (R185, R197, R226). -/
theorem receiveFrame_of_validate_ok {f : List Byte} {k : CoreState} {regs : List Word} (hwait : k.fsm = .wait)
    (hmin : 2 ≤ f.length) (hlen : f.length = k.expLen.toNat)
    (valid : validate f k.reqUnit k.reqFc k.reqQty = .ok regs) :
    receiveFrame f k = writeResponse f regs (received f k) := by
  have bound := k.expLen.isLt
  have collected := collectedFrame_received (f := f) k (by omega)
  have kept := received_keeps f k
  have ended := frameEnd_ok (received f k) regs (by rw [collected, kept.reqUnit, kept.reqFc, kept.reqQty, valid])
  rw [collected] at ended
  rw [receiveFrame, deliver_of_length_eq hwait hmin hlen, ended, ticks_fixed _ _ (tickEvent_idle _ rfl)]

/-- Settles O32: the frame has the length that exp_len expects, and validates by R102. -/
theorem successResponseCompletes : Obligations.SuccessResponseCompletes := by
  intro regs crc s hwait hfc qty_ge qty_le hexp hlen unit count frame hcrc
  have layout : rspBytes unit count regs crc = frame := by
    rw [rspBytes, littleEndian, loByte_eq_setWidth, hiByte_eq_shift]
  have length : frame.length = s.core.expLen.toNat := by
    rw [← layout, rspBytes_length, hlen, hexp]
  have valid : validate frame s.core.reqUnit s.core.reqFc s.core.reqQty = .ok regs := by
    rw [← layout, hfc]
    exact wellFormedResponseIsAccepted _ _ regs crc qty_ge qty_le hlen hcrc
  have arrived := receiveFrame_of_validate_ok hwait (by omega) length valid
  have nreg : s.core.reqQty.setWidth 7 = BitVec.ofNat 7 regs.length := by
    rw [hlen]; rfl
  refine ⟨overwrite s.core.rxbuf frame, storeRegs s.core.regs regs, overwrite_get _ _, fun i => ?_, ?_⟩
  · rw [storeRegs_get]
    by_cases h : i.val < regs.length <;> simp [h]
  · refine congrArg Host.Outcome.next (congrArg (State.mk · s.port) ?_)
    rw [layout, arrived, ← nreg]
    simp only [writeResponse, complete, received]
    rfl

/-! ### The silence after a frame (R184, R225) -/

/-- The core in RECV after `n` Ticks that have ended nothing: `countRecv`, `n` times. -/
def countedRecv (n : Nat) (k : CoreState) : CoreState :=
  { k with respTimer := k.respTimer + BitVec.ofNat 16 n, ibTimer := k.ibTimer + BitVec.ofNat 16 n }

theorem countedRecv_countRecv (n : Nat) (k : CoreState) : countedRecv n (countRecv k) = countedRecv (n + 1) k := by
  have count (t : Word) : t + 1 + BitVec.ofNat 16 n = t + BitVec.ofNat 16 (n + 1) := by
    rw [Nat.add_comm n 1, BitVec.ofNat_add, BitVec.add_assoc]
    rfl
  simp only [countedRecv, countRecv, count]

theorem collectedFrame_countedRecv (n : Nat) (k : CoreState) : collectedFrame (countedRecv n k) = collectedFrame k := rfl

theorem expired_iff {timer limit : Word} : expired timer limit = true ↔ limit.toNat ≤ timer.toNat := decide_eq_true_iff

theorem toNat_add_one {t : Word} (h : t.toNat + 1 < 65536) : (t + 1).toNat = t.toNat + 1 := BitVec.toNat_add_of_lt h

/-- The Tick at which ib_timer reaches its limit ends the frame, if none before it made resp_timer reach its own. -/
theorem ticks_of_silence (n : Nat) {k : CoreState} (hrecv : k.fsm = .recv)
    (hib : k.ibTimer.toNat + (n + 1) = max 1 k.ibTimeout.toNat)
    (hresp : n = 0 ∨ k.respTimer.toNat + n < k.respTimeout.toNat) :
    ticks (n + 1) k = frameEnd (countedRecv (n + 1) k) := by
  have ib_bound := k.ibTimeout.isLt
  have ib_next := toNat_add_one (t := k.ibTimer) (by omega)
  induction n generalizing k with
  | zero =>
    have silent : expired (k.ibTimer + 1) k.ibTimeout = true := expired_iff.2 (by omega)
    rw [ticks, ticks, tickEvent_recv k hrecv, if_pos silent]
    rfl
  | succ n ih =>
    have resp_bound := k.respTimeout.isLt
    have resp_next := toNat_add_one (t := k.respTimer) (by omega)
    have heard : ¬expired (k.ibTimer + 1) k.ibTimeout = true := by rw [expired_iff]; omega
    have in_window : ¬expired (k.respTimer + 1) k.respTimeout = true := by rw [expired_iff]; omega
    rw [ticks, tickEvent_recv k hrecv, if_neg heard, if_neg in_window, ← countedRecv_countRecv]
    refine ih (k := countRecv k) hrecv ?_ ?_ ib_bound (toNat_add_one ?_)
    · rw [countRecv_ibTimer, countRecv_ibTimeout, ib_next]; omega
    · rw [countRecv_respTimer, countRecv_respTimeout, resp_next]; omega
    · rw [countRecv_ibTimer, ib_next]; omega

theorem validate_excBytes {unit : Byte} {func : BitVec 7} {code : Byte} {crc : Word} (reqUnit fc qty : Word)
    (h : crc = crc16 [unit, excFunction func, code]) :
    validate (excBytes unit func code crc) reqUnit fc qty = .deviceException code :=
  validate_eq_deviceException reqUnit fc qty (crc16_eq_receivedCrc h) (excFunction_bit7 func) rfl

/-- A frame shorter than exp_len that the silence ends inside the response window, and that is an exception response. -/
theorem receiveFrame_of_validate_deviceException {f : List Byte} {k : CoreState} {code : Byte} (hwait : k.fsm = .wait)
    (hne : f ≠ []) (hlen : f.length < k.expLen.toNat)
    (hwindow : k.ibTimeout.toNat ≤ 1 ∨ k.respTimer.toNat + (k.ibTimeout.toNat - 1) < k.respTimeout.toNat)
    (valid : validate f k.reqUnit k.reqFc k.reqQty = .deviceException code) :
    receiveFrame f k = writeException f code (countedRecv (silenceTicks k) (received f k)) := by
  have bound := k.expLen.isLt
  obtain ⟨n, silence⟩ : ∃ n, silenceTicks k = n + 1 := Nat.exists_eq_add_one.2 (by simp only [silenceTicks]; omega)
  have limit : n + 1 = max 1 k.ibTimeout.toNat := silence.symm
  have kept := received_keeps f k
  have ended : ticks (n + 1) (received f k) = frameEnd (countedRecv (n + 1) (received f k)) := by
    refine ticks_of_silence n rfl ?_ ?_
    · rw [kept.ibTimeout, ← limit]
      exact Nat.zero_add _
    · rw [kept.respTimeout]
      simp only [received]; omega
  have collected : collectedFrame (countedRecv (n + 1) (received f k)) = f :=
    (collectedFrame_countedRecv _ _).trans (collectedFrame_received k (by omega))
  have exception := frameEnd_deviceException (countedRecv (n + 1) (received f k)) code
    (by rw [collected]; simp only [countedRecv, received]; exact valid)
  rw [collected] at exception
  rw [receiveFrame, deliver_of_length_lt hwait hne hlen, silence, ended, exception]

/-- Settles O33: the five bytes are fewer than exp_len, so the silence ends the frame, whose function byte has bit 7. -/
theorem exceptionResponseCompletes : Obligations.ExceptionResponseCompletes := by
  intro unit func code crc s hwait hexp hcrc hwindow n frame
  have layout : excBytes unit func code crc = frame := by
    rw [excBytes, littleEndian, loByte_eq_setWidth, hiByte_eq_shift]
    rfl
  have valid : validate frame s.core.reqUnit s.core.reqFc s.core.reqQty = .deviceException code :=
    layout ▸ validate_excBytes _ _ _ hcrc
  have arrived := receiveFrame_of_validate_deviceException (f := frame) hwait (List.cons_ne_nil _ _) hexp hwindow valid
  have silence : (0 : Word) + BitVec.ofNat 16 (silenceTicks s.core) = n := BitVec.zero_add _
  refine ⟨overwrite s.core.rxbuf frame, overwrite_get _ _, ?_⟩
  refine congrArg Host.Outcome.next (congrArg (State.mk · s.port) ?_)
  rw [layout, arrived]
  simp only [writeException, raise_of_terminal .deviceException _ rfl, complete, countedRecv, received, silence]
  rfl

end Sys2Proof.Machine
end

/-! PROOFS. The CRC engine and the host CRC port (40_crc.md): the algebra of `crc_step`, the frames it rejects, and the
independence of CRC_ACC. -/

section
namespace Sys2Proof.Machine

/-! ### One shift (R140) -/

theorem crcShift_of_bit (c : Word) (h : c.getLsbD 0 = true) : crcShift c = (c >>> 1) ^^^ crcPoly := if_pos h

theorem crcShift_of_no_bit (c : Word) (h : c.getLsbD 0 = false) : crcShift c = c >>> 1 :=
  if_neg (Bool.eq_false_iff.1 h)

/-- The bit shifted out as R140 tests it, by masking. -/
theorem getLsbD_zero_iff (c : Word) : c.getLsbD 0 = true ↔ c &&& 1 = 1 := by
  rw [show c &&& 1 = _ from BitVec.and_one_eq_setWidth_ofBool_getLsbD]
  cases c.getLsbD 0 <;> decide

/-- Settles O1: `Nat.repeat` of eight shifts, each tested by the mask. -/
theorem crcStepIsEightShifts : Obligations.CrcStepIsEightShifts := by
  intro c b sh
  have shift_eq : crcShift = sh := by
    funext x
    simp only [crcShift, getLsbD_zero_iff, sh]
  rw [crcStep, shift_eq]
  rfl

/-! ### The port's two writes (R143, R144) -/

/-- Settles O2: the arm of CRC_INIT is this update of the core. -/
theorem crcInitSetsAccumulator : Obligations.CrcInitSetsAccumulator := fun _ => rfl

theorem exec_crcData (v : Word) (s : State) :
    exec (.crcData v) s = .next { s with core := { s.core with crcAcc := crcStep s.core.crcAcc (loByte v) } } := rfl

theorem loByte_and_mask (v : Word) : loByte (v &&& 0x00FF) = loByte v := by
  apply BitVec.eq_of_toNat_eq
  rw [loByte_toNat, loByte_toNat, BitVec.toNat_and]
  exact (congrArg (· % 256) (Nat.and_two_pow_sub_one_eq_mod v.toNat 8)).trans (Nat.mod_mod _ _)

/-- Settles O3: the arm of CRC_DATA reads the written value through its low byte only. -/
theorem crcDataFeedsLowByte : Obligations.CrcDataFeedsLowByte :=
  fun v s => ⟨exec_crcData v s, by rw [exec_crcData, exec_crcData, loByte_and_mask]⟩

/-- CRC_DATA for each value of a list folds `crc_step` over their low bytes. -/
theorem execAll_map_crcData (vs : List Word) (s : State) :
    execAll (vs.map .crcData) s
      = .next { s with core := { s.core with crcAcc := crcFold s.core.crcAcc (vs.map loByte) } } := by
  induction vs generalizing s with
  | nil => rfl
  | cons v vs ih =>
    rw [List.map_cons, execAll_cons _ (exec_crcData v s), ih]
    rfl

/-- Settles O4: the fold of R141 starts from the value that CRC_INIT sets. -/
theorem crcPortComputesCrc16 : Obligations.CrcPortComputesCrc16 := by
  intro vs s
  rw [execAll_cons _ (crcInitSetsAccumulator s), execAll_map_crcData]
  rfl

/-! ### `crc_step` as a bijection (R142 item 5) -/

/-- The shift can be undone: CRC_POLY has bit 15 set and a shifted word has not, so the top bit tells the bit shifted
out. -/
theorem crcShift_bit15 (c : Word) : (crcShift c).getLsbD 15 = c.getLsbD 0 := by
  cases h : c.getLsbD 0
  · simp [crcShift_of_no_bit c h]
  · simp [crcShift_of_bit c h]

theorem eq_of_bit_of_shift {c d : Word} (bit : c.getLsbD 0 = d.getLsbD 0) (shift : c >>> 1 = d >>> 1) : c = d := by
  apply BitVec.eq_of_getLsbD_eq
  intro i _
  cases i with
  | zero => exact bit
  | succ i => simpa [Nat.add_comm] using congrArg (BitVec.getLsbD · i) shift

theorem crcShift_injective : Function.Injective crcShift := by
  intro c d h
  have bit : c.getLsbD 0 = d.getLsbD 0 := by rw [← crcShift_bit15, ← crcShift_bit15, h]
  refine eq_of_bit_of_shift bit ?_
  cases hd : d.getLsbD 0
  · rwa [crcShift_of_no_bit c (bit.trans hd), crcShift_of_no_bit d hd] at h
  · rw [crcShift_of_bit c (bit.trans hd), crcShift_of_bit d hd] at h
    exact (BitVec.xor_left_inj _).1 h

theorem repeat_crcShift_injective (n : Nat) : Function.Injective (Nat.repeat crcShift n) := by
  induction n with
  | zero => exact Function.injective_id
  | succ n ih => exact crcShift_injective.comp ih

theorem byte_setWidth_injective : Function.Injective fun b : Byte => b.setWidth 16 := by
  intro b b' h
  simpa using congrArg (BitVec.setWidth 8) h

theorem crcStep_injective_byte (c : Word) : Function.Injective (crcStep c) := fun _ _ h =>
  byte_setWidth_injective ((BitVec.xor_right_inj _).1 (repeat_crcShift_injective 8 h))

theorem crcStep_injective_crc (b : Byte) : Function.Injective fun c => crcStep c b := fun _ _ h =>
  (BitVec.xor_left_inj _).1 (repeat_crcShift_injective 8 h)

/-- Settles O6: exclusive-or and shifts are injective, and the CRC values are finitely many. -/
theorem crcStepIsInjectiveAndBijective : Obligations.CrcStepIsInjectiveAndBijective :=
  ⟨crcStep_injective_byte, fun b => (crcStep_injective_crc b).bijective_of_finite⟩

/-! ### The residue (R142 item 4) -/

/-- While the bits shifted out are 0 the shifts are plain ones. -/
theorem repeat_crcShift_of_low_zero (n : Nat) (c : Word) (h : ∀ i < n, c.getLsbD i = false) :
    Nat.repeat crcShift n c = c >>> n := by
  induction n with
  | zero => simp [Nat.repeat]
  | succ n ih =>
    have bit : (c >>> n).getLsbD 0 = false := by simpa using h n (Nat.lt_succ_self n)
    rw [Nat.repeat, ih fun i hi => h i (Nat.lt_succ_of_lt hi), crcShift_of_no_bit _ bit, BitVec.shiftRight_add]

/-- Feeding a CRC its own low byte leaves its high byte. -/
theorem crcStep_loByte (c : Word) : crcStep c (loByte c) = (hiByte c).setWidth 16 := by
  rw [crcStep, repeat_crcShift_of_low_zero]
  · ext i
    suffices c.getLsbD (8 + i) = true → i < 8 by simpa [hiByte_eq_shift, loByte_eq_setWidth]
    intro bit
    have := BitVec.lt_of_getLsbD bit
    omega
  · intro i hi
    have : i < 16 := by omega
    simp [loByte_eq_setWidth, hi, this]

theorem crcStep_setWidth_self (b : Byte) : crcStep (b.setWidth 16) b = 0 := by
  rw [crcStep, BitVec.xor_self, repeat_crcShift_of_low_zero _ _ (by simp)]
  rfl

/-- Settles O5: the first CRC byte shifts the high byte down, and the second cancels it. -/
theorem crcResidueIsZero : Obligations.CrcResidueIsZero := by
  intro s
  rw [crc16_append, ← loByte_eq_setWidth, ← hiByte_eq_shift, crcFold_cons, crcFold_cons, crcStep_loByte,
    crcStep_setWidth_self, crcFold_nil]

/-! ### A changed byte (R142 item 5, R189) -/

theorem crcFold_injective (s : List Byte) : Function.Injective fun c => crcFold c s := by
  induction s with
  | nil => exact Function.injective_id
  | cons b s ih => exact ih.comp (crcStep_injective_crc b)

/-- Messages that differ in one byte have different CRCs. -/
theorem crc16_ne_of_changed_byte {b b' : Byte} (h : b ≠ b') (pre post : List Byte) :
    crc16 (pre ++ b :: post) ≠ crc16 (pre ++ b' :: post) := by
  rw [crc16_append, crc16_append, crcFold_cons, crcFold_cons]
  exact (crcFold_injective post).ne ((crcStep_injective_byte _).ne h)

theorem validate_eq_crcMismatch {f : List Byte} (unit fc qty : Word) (long : minFrame ≤ f.length)
    (crc : crc16 (f.take (f.length - 2)) ≠ receivedCrc f) : validate f unit fc qty = .error .crcMismatch := by
  unfold validate
  rw [if_neg (Nat.not_lt.2 long), if_pos crc]

theorem receivedCrc_append (body : List Byte) (lo hi : Byte) : receivedCrc (body ++ [lo, hi]) = hi ++ lo := by
  simp [receivedCrc, frameByte, joinBytes]

theorem take_length_sub_two (body : List Byte) (lo hi : Byte) :
    (body ++ [lo, hi]).take ((body ++ [lo, hi]).length - 2) = body := by
  simp

/-- Settles O7: the frame carries the CRC of the message before the change, which is not that of the message after. -/
theorem changedByteIsCrcMismatch : Obligations.ChangedByteIsCrcMismatch := by
  intro pre post b b' lo hi unit fc qty hlen hcrc hne
  apply validate_eq_crcMismatch
  · simp [minFrame]; omega
  · rw [take_length_sub_two, receivedCrc_append, ← hcrc]
    exact (crc16_ne_of_changed_byte hne pre post).symm

/-! ### The independence of CRC_ACC (R146) -/

/-- The core with another value in CRC_ACC. -/
def withCrcAcc (c : Word) (k : CoreState) : CoreState := { k with crcAcc := c }

/-- An effect on the core that neither reads nor writes CRC_ACC: it does the same to the rest, whatever CRC_ACC
holds. -/
def IgnoresCrcAcc (f : CoreState → CoreState) : Prop := ∀ c k, f (withCrcAcc c k) = withCrcAcc c (f k)

namespace IgnoresCrcAcc

variable {f g : CoreState → CoreState}

theorem id : IgnoresCrcAcc fun k => k := fun _ _ => rfl

theorem comp (hg : IgnoresCrcAcc g) (hf : IgnoresCrcAcc f) : IgnoresCrcAcc fun k => g (f k) := fun c k =>
  (congrArg g (hf c k)).trans (hg c (f k))

end IgnoresCrcAcc

/-- A branch on a condition that does not read CRC_ACC. -/
theorem ite_eq_withCrcAcc {p : Prop} [Decidable p] {c : Word} {k k' l l' : CoreState} (hk : k' = withCrcAcc c k)
    (hl : l' = withCrcAcc c l) : (if p then k' else l') = withCrcAcc c (if p then k else l) := by
  rw [hk, hl, apply_ite (withCrcAcc c)]

theorem fail_ignoresCrcAcc (e : ErrKind) : IgnoresCrcAcc (fail e) := by
  intro c k
  rcases mode_cases k with hm | hm
  · by_cases hr : k.attempts.toNat ≤ k.maxRetries.toNat
    · rw [fail_of_retry e k hm hr, fail_of_retry e (withCrcAcc c k) hm hr]
      rfl
    · rw [fail_of_spent e k hm hr, fail_of_spent e (withCrcAcc c k) hm hr]
      rfl
  · rw [fail_of_decode e k hm, fail_of_decode e (withCrcAcc c k) hm]
    rfl

theorem raise_ignoresCrcAcc (e : ErrKind) : IgnoresCrcAcc (raise e) := fun c k =>
  ite_eq_withCrcAcc (fail_ignoresCrcAcc e c k) rfl

theorem frameEnd_ignoresCrcAcc : IgnoresCrcAcc frameEnd := by
  intro c k
  rcases frameEnd_cases k with ⟨regs, h, heq⟩ | ⟨code, h, heq⟩ | ⟨e, -, h, heq⟩ <;> rw [heq]
  · exact frameEnd_ok (withCrcAcc c k) regs h
  · exact frameEnd_deviceException (withCrcAcc c k) code h
  · exact (frameEnd_error (withCrcAcc c k) e h).trans (raise_ignoresCrcAcc e c k)

theorem rxByteEvent_ignoresCrcAcc (b : Byte) : IgnoresCrcAcc (rxByteEvent b) := by
  intro c k
  cases hf : k.fsm with
  | idle => rw [rxByteEvent_idle b k hf, rxByteEvent_idle b (withCrcAcc c k) hf]
  | tx => rw [rxByteEvent_tx b k hf, rxByteEvent_tx b (withCrcAcc c k) hf]
  | wait =>
    rw [rxByteEvent_wait b k hf, rxByteEvent_wait b (withCrcAcc c k) hf]
    rfl
  | recv =>
    rw [rxByteEvent_recv b k hf, rxByteEvent_recv b (withCrcAcc c k) hf]
    exact ite_eq_withCrcAcc (frameEnd_ignoresCrcAcc c (takeByte b k)) rfl

theorem tickEvent_ignoresCrcAcc : IgnoresCrcAcc tickEvent := by
  intro c k
  cases hf : k.fsm with
  | idle => rw [tickEvent_idle k hf, tickEvent_idle (withCrcAcc c k) hf]
  | tx => rw [tickEvent_tx k hf, tickEvent_tx (withCrcAcc c k) hf]
  | wait =>
    rw [tickEvent_wait k hf, tickEvent_wait (withCrcAcc c k) hf]
    exact ite_eq_withCrcAcc (raise_ignoresCrcAcc .timeout c (countWait k)) rfl
  | recv =>
    rw [tickEvent_recv k hf, tickEvent_recv (withCrcAcc c k) hf]
    exact ite_eq_withCrcAcc (frameEnd_ignoresCrcAcc c (countRecv k))
      (ite_eq_withCrcAcc (raise_ignoresCrcAcc .timeout c (countRecv k)) rfl)

theorem txAcceptEvent_ignoresCrcAcc : IgnoresCrcAcc txAcceptEvent := by
  intro c k
  by_cases hf : k.fsm = .tx
  · rw [txAcceptEvent_tx k hf, txAcceptEvent_tx (withCrcAcc c k) hf]
    exact ite_eq_withCrcAcc rfl rfl
  · rw [txAcceptEvent_of_ne k hf, txAcceptEvent_of_ne (withCrcAcc c k) hf]

theorem ioErrorEvent_ignoresCrcAcc : IgnoresCrcAcc ioErrorEvent := fun c k =>
  ite_eq_withCrcAcc (raise_ignoresCrcAcc .ioError c k) rfl

theorem ticks_ignoresCrcAcc (n : Nat) : IgnoresCrcAcc (ticks n) := by
  induction n with
  | zero => exact .id
  | succ n ih => exact ih.comp tickEvent_ignoresCrcAcc

theorem deliver_ignoresCrcAcc (f : List Byte) : IgnoresCrcAcc (deliver f) := by
  induction f with
  | nil => exact .id
  | cons b f ih => exact ih.comp (rxByteEvent_ignoresCrcAcc b)

/-- The number of Ticks after the bytes is IB_TIMEOUT's. -/
theorem receiveFrame_ignoresCrcAcc (f : List Byte) : IgnoresCrcAcc (receiveFrame f) := fun c k =>
  (ticks_ignoresCrcAcc (silenceTicks k)).comp (deliver_ignoresCrcAcc f) c k

theorem whenIdle_ignoresCrcAcc {act : CoreState → CoreState} (h : IgnoresCrcAcc act) : IgnoresCrcAcc (whenIdle act) :=
  fun c k => ite_eq_withCrcAcc rfl (h c k)

theorem doEncode_ignoresCrcAcc : IgnoresCrcAcc doEncode := fun _ _ => ite_eq_withCrcAcc rfl rfl

theorem doDecode_ignoresCrcAcc : IgnoresCrcAcc doDecode := fun _ _ => ite_eq_withCrcAcc rfl rfl

theorem doExecute_ignoresCrcAcc : IgnoresCrcAcc doExecute := fun _ _ => ite_eq_withCrcAcc rfl rfl

theorem clearFlags_ignoresCrcAcc : IgnoresCrcAcc clearFlags := fun _ _ => rfl

/-! ### The same for the whole machine -/

/-- The machine with another value in CRC_ACC. -/
def State.withCrcAcc (c : Word) (s : State) : State := s.mapCore (Machine.withCrcAcc c)

/-- The form that most arms of `exec` have. -/
theorem next_mapCore_withCrcAcc {f : CoreState → CoreState} (h : IgnoresCrcAcc f) (c : Word) (s : State) :
    (.next ((s.withCrcAcc c).mapCore f) : Host.Outcome State Fault Refusal) = .next ((s.mapCore f).withCrcAcc c) :=
  congrArg (fun k => Host.Outcome.next (State.mk k s.port)) (h c s.core)

theorem acceptByte_withCrcAcc (c : Word) (s : State) : acceptByte (s.withCrcAcc c) = (acceptByte s).withCrcAcc c := by
  by_cases hf : s.core.fsm = .tx
  · have offered : txValid s.core = true := (txValid_iff _).2 hf
    rw [acceptByte, if_pos (show txValid (s.withCrcAcc c).core = true from offered), acceptByte, if_pos offered]
    exact congrArg (State.mk · _) (txAcceptEvent_ignoresCrcAcc c s.core)
  · rw [acceptByte_of_ne s hf, acceptByte_of_ne (s.withCrcAcc c) hf]

theorem acceptBytes_withCrcAcc (n : Nat) (c : Word) (s : State) :
    acceptBytes n (s.withCrcAcc c) = (acceptBytes n s).withCrcAcc c := by
  induction n generalizing s with
  | zero => rfl
  | succ n ih => rw [acceptBytes, acceptByte_withCrcAcc, ih, acceptBytes]

theorem execReqRhr_withCrcAcc (unit : Byte) (addr qty crc c : Word) (s : State) :
    ∃ t, execReqRhr unit addr qty crc s = .next t
      ∧ execReqRhr unit addr qty crc (s.withCrcAcc c) = .next (t.withCrcAcc c) := by
  refine ⟨_, execReqRhr_eq unit addr qty crc s, (execReqRhr_eq unit addr qty crc _).trans (congrArg _ ?_)⟩
  rw [apply_ite (State.withCrcAcc c), ← acceptBytes_withCrcAcc]
  rfl

/-- R146 as one equation: the rest of the next state is the same whatever CRC_ACC holds, and CRC_ACC keeps that. -/
theorem exec_withCrcAcc {i : Instr} {s t : State} (c : Word) (hinit : i ≠ .crcInit) (hdata : ∀ v, i ≠ .crcData v)
    (hreset : i ≠ .reset) (h : exec i s = .next t) : exec i (s.withCrcAcc c) = .next (t.withCrcAcc c) := by
  cases i
  case reqRhr unit addr qty crc =>
    obtain ⟨u, hs, hc⟩ := execReqRhr_withCrcAcc unit addr qty crc c s
    cases hs.symm.trans h
    exact hc
  case crcInit => exact absurd rfl hinit
  case crcData v => exact absurd rfl (hdata v)
  case reset => exact absurd rfl hreset
  all_goals cases h
  case rspRhr => exact next_mapCore_withCrcAcc (receiveFrame_ignoresCrcAcc _) c s
  case rspExc => exact next_mapCore_withCrcAcc (receiveFrame_ignoresCrcAcc _) c s
  case nop => rfl
  case encode => exact next_mapCore_withCrcAcc (whenIdle_ignoresCrcAcc doEncode_ignoresCrcAcc) c s
  case decode => exact next_mapCore_withCrcAcc (whenIdle_ignoresCrcAcc doDecode_ignoresCrcAcc) c s
  case execute => exact next_mapCore_withCrcAcc (whenIdle_ignoresCrcAcc doExecute_ignoresCrcAcc) c s
  case clear => exact next_mapCore_withCrcAcc (whenIdle_ignoresCrcAcc clearFlags_ignoresCrcAcc) c s
  case ioErr => exact next_mapCore_withCrcAcc ioErrorEvent_ignoresCrcAcc c s
  case rxByte b => exact next_mapCore_withCrcAcc (rxByteEvent_ignoresCrcAcc b) c s
  case tick => exact next_mapCore_withCrcAcc tickEvent_ignoresCrcAcc c s
  case txAccept => exact congrArg _ (acceptByte_withCrcAcc c s)

/-- Settles O8: with the value that CRC_ACC has, the equation of `exec_withCrcAcc` says that it is kept. -/
theorem crcAccumulatorIsIndependent : Obligations.CrcAccumulatorIsIndependent := by
  intro i s t c hinit hdata hreset h
  refine ⟨?_, exec_withCrcAcc c hinit hdata hreset h⟩
  have same : .next t = Host.Outcome.next (t.withCrcAcc s.core.crcAcc) :=
    h.symm.trans (exec_withCrcAcc s.core.crcAcc hinit hdata hreset h)
  injection same with same
  exact congrArg (·.core.crcAcc) same

end Sys2Proof.Machine
end

/-! PROOFS. The Frame Encoder (41_encoder.md): which requests are valid, the request frame in R162's bytes, and the
whole next state of ENCODE. -/

section
namespace Sys2Proof.Machine

/-! ### Validation of a request (R160) -/

/-- Settles O9: `validRequest` decides the five conditions one by one, and its function code is FC_RHR widened to 16
bits. -/
theorem validRequestBounds : Obligations.ValidRequestBounds := by
  intro unit fc addr qty
  have fcRhr_word : fcRhr.setWidth 16 = (0x0003 : Word) := rfl
  simp only [validRequest, fcRhr_word, Bool.and_eq_true, decide_eq_true_iff, beq_iff_eq, and_assoc]

theorem requestOk_iff_bounds (k : CoreState) :
    requestOk k = true ↔
      1 ≤ k.reqUnit.toNat ∧ k.reqUnit.toNat ≤ 247 ∧ k.reqFc = 0x0003 ∧ 1 ≤ k.reqQty.toNat ∧ k.reqQty.toNat ≤ 125 :=
  (requestOk_iff k).trans (validRequestBounds _ _ _ _)

/-! ### The request frame (R162) -/

/-- The six bytes of R162 before the CRC: the low bytes of the unit and the function code, then address and quantity
high byte first. -/
def encodedBody (k : CoreState) : List Byte :=
  [k.reqUnit.setWidth 8, k.reqFc.setWidth 8, (k.reqAddr >>> 8).setWidth 8, k.reqAddr.setWidth 8,
    (k.reqQty >>> 8).setWidth 8, k.reqQty.setWidth 8]

/-- The frame in shifts and widths instead of the model's `hiByte` and `loByte`. -/
theorem requestFrame_eq (k : CoreState) :
    requestFrame k =
      #v[k.reqUnit.setWidth 8, k.reqFc.setWidth 8, (k.reqAddr >>> 8).setWidth 8, k.reqAddr.setWidth 8,
        (k.reqQty >>> 8).setWidth 8, k.reqQty.setWidth 8, (crc16 (encodedBody k)).setWidth 8,
        (crc16 (encodedBody k) >>> 8).setWidth 8] := by
  simp only [requestFrame, encodeAdu, encodedBody, loByte_eq_setWidth, hiByte_eq_shift]

/-! ### ENCODE (R163, R233) -/

/-- A command that completes in IDLE stays there, so `complete` writes the flags, ERR and rx_cnt only. -/
theorem complete_of_idle (ok : Bool) (err : ErrKind) {k : CoreState} (hidle : k.fsm = .idle) :
    complete ok err k = { k with err := err, ok := ok, done := true, rxCnt := 0 } := by
  rw [complete, ← hidle]

theorem doEncode_of_valid {k : CoreState} (hidle : k.fsm = .idle) (hok : requestOk k = true) :
    doEncode k = { clearResults k with
      txbuf := requestFrame k, txLen := 8, ok := true, err := .none, done := true, rxCnt := 0 } := by
  rw [doEncode, if_pos hok, complete_of_idle _ _ (by exact hidle)]
  rfl

/-- InvalidRequest is not retryable, so it completes the command at once (R279). -/
theorem doEncode_of_invalid {k : CoreState} (hidle : k.fsm = .idle) (hok : ¬requestOk k = true) :
    doEncode k = { clearResults k with txLen := 0, ok := false, err := .invalidRequest, done := true, rxCnt := 0 } := by
  rw [doEncode, if_neg hok, rejectRequest, raise_of_terminal _ _ rfl, complete_of_idle _ _ (by exact hidle)]

theorem exec_encode (s : State) : exec .encode s = .next { s with core := whenIdle doEncode s.core } := rfl

/-- Settles O10: refused in a busy state; in IDLE the request decides between the two completions. -/
theorem encodeCommand : Obligations.EncodeCommand := by
  intro s
  rw [exec_encode]
  congr 2
  by_cases hbusy : s.core.fsm ≠ .idle
  · rw [if_pos hbusy, whenIdle_of_busy _ _ hbusy, refuse]
  · have hidle : s.core.fsm = .idle := not_not.1 hbusy
    rw [if_neg hbusy, whenIdle_of_idle _ _ hidle]
    by_cases hok : requestOk s.core = true
    · rw [if_pos ((requestOk_iff_bounds _).1 hok), doEncode_of_valid hidle hok, requestFrame_eq]
      rfl
    · rw [if_neg (mt (requestOk_iff_bounds _).2 hok), doEncode_of_invalid hidle hok]
      rfl

end Sys2Proof.Machine
end

/-! PROOFS. The Frame Decoder (42_decoder.md): `validate` in the numbers of R189, what the frame's end writes, received
bytes, DECODE, and the events and frames that are dropped. -/

section
namespace Sys2Proof.Machine

/-! ### The checks of `validate` in natural numbers (R189 to R196) -/

theorem crc16_ne_receivedCrc_iff (m f : List Byte) :
    crc16 m ≠ receivedCrc f ↔
      (crc16 m).toNat ≠ (f.getD (f.length - 2) 0).toNat + 256 * (f.getD (f.length - 1) 0).toNat := by
  rw [Ne, ← BitVec.toNat_inj, receivedCrc, joinBytes_toNat, Nat.mul_comm, Nat.add_comm]
  rfl

/-- Bit 7 is the exception bit of a function byte (R192). -/
theorem getLsbD_seven_iff (b : Byte) : b.getLsbD 7 = true ↔ 128 ≤ b.toNat := by
  have top : b.getLsbD 7 = decide (128 ≤ b.toNat) := BitVec.msb_eq_decide b
  rw [top, decide_eq_true_iff]

theorem ne_loByte_iff (b : Byte) (w : Word) : b ≠ loByte w ↔ b.toNat ≠ w.toNat % 256 := by
  rw [Ne, ← BitVec.toNat_inj, loByte_toNat]

theorem joinBytes_eq_ofNat (hi lo : Byte) : joinBytes hi lo = BitVec.ofNat 16 (hi.toNat * 256 + lo.toNat) := by
  rw [← joinBytes_toNat, BitVec.ofNat_toNat, BitVec.setWidth_eq]

theorem extractRegs_eq_ofNat (f : List Byte) (qty : Nat) :
    extractRegs f qty = (List.range qty).map fun i =>
      BitVec.ofNat 16 ((f.getD (3 + 2 * i) 0).toNat * 256 + (f.getD (4 + 2 * i) 0).toNat) :=
  List.map_congr_left fun _ _ => joinBytes_eq_ofNat _ _

/-- Settles O11: the checks stand in the same order on both sides, and each condition is its own in numbers. -/
theorem validateIsSixChecksInOrder : Obligations.ValidateIsSixChecksInOrder := by
  intro f unit fc qty
  exact if_congr Iff.rfl rfl <|
    if_congr (crc16_ne_receivedCrc_iff _ f) rfl <|
    if_congr (getLsbD_seven_iff _) rfl <|
    if_congr (ne_loByte_iff _ unit) rfl <|
    if_congr (ne_loByte_iff _ fc) rfl <|
    if_congr Iff.rfl rfl <|
    congrArg Verdict.ok (extractRegs_eq_ofNat f qty.toNat)

/-! ### The frame's end (R188, R197, R198) -/

theorem collectedFrame_length_le (k : CoreState) : (collectedFrame k).length ≤ 255 := by
  simp [collectedFrame]

theorem frameByte_collectedFrame {k : CoreState} {i : Nat} (h : i < (collectedFrame k).length) :
    frameByte (collectedFrame k) i = k.rxbuf[i]'(h.trans_le (collectedFrame_length_le k)) := by
  rw [frameByte, List.getD_eq_getElem _ _ h]
  simp [collectedFrame]

/-- An entry of REGS after an accepted response, by the quantity asked for. -/
theorem storeRegs_get_of_length {l : List Word} {n : Nat} (v : Vector Word 125) (h : l.length = n) (i : Fin 125) :
    (storeRegs v l)[i] = if i.val < n then l.getD i 0 else v[i] := by
  subst h
  rw [storeRegs_get]
  by_cases hi : i.val < l.length <;> simp [hi]

/-- Settles O15: the frame has the response's length, so its first three bytes are those of RXBUF. -/
theorem frameEndWritesResponse : Obligations.FrameEndWritesResponse := by
  intro k regs hv _
  obtain ⟨-, -, -, length, -, extracted⟩ := validate_ok _ _ _ _ _ hv
  have long : 3 ≤ (collectedFrame k).length := by
    rw [collectedFrame, length, rspLen]; omega
  have count : regs.length = k.reqQty.toNat := by rw [extracted, extractRegs_length]
  refine ⟨storeRegs k.regs regs, storeRegs_get_of_length k.regs count, ?_⟩
  rw [frameEnd_ok k regs hv, writeResponse, frameByte_collectedFrame (by omega), frameByte_collectedFrame (by omega),
    frameByte_collectedFrame (by omega)]
  rfl

/-- Settles O16: DeviceException is not retryable, so it completes with its own code (R279). -/
theorem frameEndReportsFailure : Obligations.FrameEndReportsFailure := by
  constructor
  · intro k code hv
    obtain ⟨-, -, length, -⟩ := validate_deviceException _ _ _ _ _ hv
    have long : 2 ≤ (collectedFrame k).length := by
      rw [collectedFrame, length]; decide
    rw [frameEnd_deviceException k code hv, writeException, raise_of_terminal _ _ rfl,
      frameByte_collectedFrame (by omega), frameByte_collectedFrame (by omega)]
    rfl
  · intro k e hv
    exact ⟨frameEnd_error k e hv, validate_error _ _ _ _ e hv⟩

/-! ### Received bytes (R182, R183) -/

theorem exec_rxByte (b : Byte) (s : State) :
    exec (.rxByte b) s = .next { s with core := rxByteEvent b s.core } := rfl

/-- Settles O13: this is the model's `takeFirstByte`. -/
theorem rxByteInWait : Obligations.RxByteInWait := by
  intro b s hwait
  rw [exec_rxByte, rxByteEvent_wait b _ hwait, takeFirstByte]

/-- Settles O14: rx_cnt is below 255, so it counts the byte without a wrap. -/
theorem rxByteInRecv : Obligations.RxByteInRecv := by
  intro b s hlt hrecv
  have last : s.core.rxCnt + 1 = s.core.expLen ↔ s.core.rxCnt.toNat + 1 = s.core.expLen.toNat := by
    constructor <;> intro h <;> bv_omega
  rw [exec_rxByte, rxByteEvent_recv b _ hrecv, takeByte_of_lt b _ hlt]
  exact congrArg (fun l => Host.Outcome.next { s with core := l }) (if_congr last rfl rfl)

/-! ### DECODE (R181, R186, R233) -/

theorem exec_decode (s : State) : exec .decode s = .next { s with core := whenIdle doDecode s.core } := rfl

/-- Settles O19: refused in a busy state; in IDLE the request decides whether the window opens. -/
protected theorem decodeCommand : Obligations.DecodeCommand := by
  intro s
  rw [exec_decode]
  congr 2
  by_cases hbusy : s.core.fsm ≠ .idle
  · rw [if_pos hbusy, whenIdle_of_busy _ _ hbusy, refuse]
  · have hidle : s.core.fsm = .idle := not_not.1 hbusy
    rw [if_neg hbusy, whenIdle_of_idle _ _ hidle]
    obtain ⟨hok, heq⟩ | ⟨hok, heq⟩ := doDecode_cases s.core
    · rw [if_pos ((requestOk_iff_bounds _).1 hok), heq]
      rfl
    · rw [if_neg (mt (requestOk_iff_bounds _).2 (by simp [hok])), heq, complete_of_idle _ _ (by exact hidle)]
      rfl

/-! ### Dropped bytes, Ticks and frames (R187, R226, R240) -/

theorem rxByteEvent_dropped (b : Byte) {k : CoreState} (h : k.fsm = .idle ∨ k.fsm = .tx) : rxByteEvent b k = k :=
  h.elim (rxByteEvent_idle b k) (rxByteEvent_tx b k)

theorem tickEvent_dropped {k : CoreState} (h : k.fsm = .idle ∨ k.fsm = .tx) : tickEvent k = k :=
  h.elim (tickEvent_idle k) (tickEvent_tx k)

theorem receiveFrame_dropped (f : List Byte) {k : CoreState} (h : k.fsm = .idle ∨ k.fsm = .tx) :
    receiveFrame f k = k := by
  rw [receiveFrame, deliver_fixed f k fun b => rxByteEvent_dropped b h, ticks_fixed _ k (tickEvent_dropped h)]

/-- Settles O26: the event leaves the core, or takes no byte from it, and the ports stay. -/
theorem eventsOutOfPlaceChangeNothing : Obligations.EventsOutOfPlaceChangeNothing := by
  refine ⟨fun b s h => ?_, fun s h => ?_, fun s h => ?_⟩
  · exact congrArg Host.Outcome.next (mapCore_of_fixed (rxByteEvent_dropped b h))
  · exact congrArg Host.Outcome.next (mapCore_of_fixed (tickEvent_dropped h))
  · exact congrArg Host.Outcome.next (acceptByte_of_ne s h)

/-- Settles O34: every byte of the frame and every Tick after it is dropped. -/
theorem framesOutsideReceiveAreDropped : Obligations.FramesOutsideReceiveAreDropped := by
  rintro i s (⟨unit, byteCount, regs, crc, rfl⟩ | ⟨unit, func, code, crc, rfl⟩) h
  · exact congrArg Host.Outcome.next (mapCore_of_fixed (receiveFrame_dropped _ h))
  · exact congrArg Host.Outcome.next (mapCore_of_fixed (receiveFrame_dropped _ h))

end Sys2Proof.Machine
end

/-! PROOFS. The Transaction Cycle (43_transaction.md): errors and retries, EXECUTE, the strobes in each state, and what is
refused. -/

section
namespace Sys2Proof.Machine

/-! ### A retryable error (R227, R277, R278) -/

/-- A counter's increment, modulo its width, as the word of the number that follows. -/
theorem bitVec_add_one_eq_ofNat {w : Nat} (x : BitVec w) : x + 1 = BitVec.ofNat w (x.toNat + 1) := by
  rw [BitVec.ofNat_add, BitVec.ofNat_toNat, BitVec.setWidth_eq]
  rfl

theorem fail_eq (e : ErrKind) (k : CoreState) :
    fail e k =
      if k.mode = .decode then complete false e (discardFrame e k)
      else if k.attempts.toNat ≤ k.maxRetries.toNat then retryAttempt (discardFrame e k)
      else complete false .transactionFailed (discardFrame e k) := by
  unfold fail
  cases k.mode <;> rfl

/-- Settles O17: a retryable kind is answered by `fail`, whose three outcomes these are. -/
theorem retryableErrorFailsAttempt : Obligations.RetryableErrorFailsAttempt := by
  intro e k he
  have hr : retryable e = true := by rcases he with rfl | rfl | rfl | rfl | rfl <;> rfl
  have counted : retryAttempt (discardFrame e k) =
      { k with lastErr := e, attempts := BitVec.ofNat 9 (k.attempts.toNat + 1), rxCnt := 0, txIdx := 0, fsm := .tx } := by
    rw [← bitVec_add_one_eq_ofNat]
    rfl
  rw [raise_of_retryable e k hr, fail_eq, counted]
  rfl

/-! ### EXECUTE (R221, R222, R239) -/

theorem exec_execute (s : State) : exec .execute s = .next { s with core := whenIdle doExecute s.core } := rfl

/-- Settles O20: refused in a busy state; in IDLE the request decides whether the first attempt starts. -/
theorem executeCommand : Obligations.ExecuteCommand := by
  intro s
  rw [exec_execute]
  congr 2
  by_cases hbusy : s.core.fsm ≠ .idle
  · rw [if_pos hbusy, whenIdle_of_busy _ _ hbusy, refuse]
  · have hidle : s.core.fsm = .idle := not_not.1 hbusy
    rw [if_neg hbusy, whenIdle_of_idle _ _ hidle]
    obtain ⟨hok, heq⟩ | ⟨hok, heq⟩ := doExecute_cases s.core
    · rw [if_pos ((requestOk_iff_bounds _).1 hok), heq]
      rfl
    · rw [if_neg (mt (requestOk_iff_bounds _).2 (by simp [hok])), heq, rejectRequest, raise_of_terminal _ _ rfl,
        complete_of_idle _ _ (by exact hidle)]
      rfl

/-! ### TxAccept in TX and Tick in WAIT and RECV (R223 to R225) -/

theorem exec_txAccept (s : State) : exec .txAccept s = .next (acceptByte s) := rfl

/-- Settles O23: the byte offered is that of TXBUF, and the last one opens the window. -/
theorem txAcceptInTx : Obligations.TxAcceptInTx := by
  intro s h hf
  have offered : s.core.txbuf.getD s.core.txIdx.toNat 0 = s.core.txbuf[s.core.txIdx.toNat] := by
    simp [Vector.getD, h]
  rw [exec_txAccept]
  split
  next before => rw [acceptByte_tx s hf before, offered, bitVec_add_one_eq_ofNat]
  next last => rw [acceptByte_last s hf last, offered, openWindow]

theorem exec_tick (s : State) : exec .tick s = .next { s with core := tickEvent s.core } := rfl

/-- A timer below the top of its range, counted and compared with its limit in numbers (R288). -/
theorem expired_add_one_iff {timer limit : Word} (h : timer.toNat < 65535) :
    expired (timer + 1) limit = true ↔ limit.toNat ≤ timer.toNat + 1 := by
  rw [expired_iff, toNat_add_one (by omega)]

/-- Settles O24: the window is closed by the count that includes this Tick. -/
theorem tickInWait : Obligations.TickInWait := by
  intro s hwait hresp
  rw [exec_tick, tickEvent_wait _ hwait]
  simp only [expired_add_one_iff hresp]
  rw [countWait, bitVec_add_one_eq_ofNat]

/-- Settles O25: both counts include this Tick, and the silence is tested first. -/
theorem tickInRecv : Obligations.TickInRecv := by
  intro s hrecv hresp hib
  rw [exec_tick, tickEvent_recv _ hrecv]
  simp only [expired_add_one_iff hresp, expired_add_one_iff hib]
  rw [countRecv, bitVec_add_one_eq_ofNat, bitVec_add_one_eq_ofNat]

/-! ### IOERR, CLEAR and NOP (R230 to R232) -/

theorem exec_ioErr (s : State) : exec .ioErr s = .next { s with core := ioErrorEvent s.core } := rfl

/-- Settles O27: IoError is not retryable, so outside IDLE it completes with its own code. -/
theorem ioErrorEndsTransaction : Obligations.IoErrorEndsTransaction := by
  intro s
  rw [exec_ioErr]
  split
  next hidle => rw [ioErrorEvent_idle _ hidle]
  next hbusy => rw [ioErrorEvent_busy _ hbusy, complete]

theorem exec_clear (s : State) : exec .clear s = .next { s with core := whenIdle clearFlags s.core } := rfl

theorem exec_nop (s : State) : exec .nop s = .next s := rfl

/-- Settles O28: CLEAR is gated by BUSY as the other commands are, NOP has no effect to gate. -/
theorem clearAndNop : Obligations.ClearAndNop := by
  refine ⟨fun s => ?_, exec_nop⟩
  rw [exec_clear]
  split
  next hidle => rw [whenIdle_of_idle _ _ hidle, clearFlags]
  next hbusy => rw [whenIdle_of_busy _ _ hbusy, refuse]

/-! ### HostRead (R72, R236) -/

/-- A host read in an otherwise quiet cycle is the only event of the cycle. -/
theorem cycleEvents_hostRead (k : CoreState) (a : Byte) :
    cycleEvents k { Cycle.quiet with host := .read a } = [.hostRead a] := by
  rw [cycleEvents_of_not_rst _ _ rfl]
  simp [Cycle.quiet, strobesBeforeTx, txFire, txFireEvents, hostEvents]

/-- Settles O40: the event of the cycle records the value that the register map gives. -/
theorem hostReadChangesNoState : Obligations.HostReadChangesNoState := by
  intro a s xs
  have events (k : CoreState) : inputEvents k (.cycle { Cycle.quiet with host := .read a }) = [.hostRead a] :=
    cycleEvents_hostRead k a
  rw [step_present _ _ _ _ (events _), takenAnyway_cycle]
  simp [Cycle.quiet, runEvent, hostRead]

/-! ### Refused commands (R108, R233) -/

/-- The four commands that BUSY refuses, with the effect each has in IDLE. -/
inductive GatedCommand : Instr → (CoreState → CoreState) → Prop
  | encode : GatedCommand .encode doEncode
  | decode : GatedCommand .decode doDecode
  | execute : GatedCommand .execute doExecute
  | clear : GatedCommand .clear clearFlags

theorem GatedCommand.exec {i : Instr} {act : CoreState → CoreState} (h : GatedCommand i act) (s : State) :
    exec i s = .next { s with core := whenIdle act s.core } := by
  cases h <;> rfl

theorem GatedCommand.of_eq {i : Instr} (h : i = .encode ∨ i = .decode ∨ i = .execute ∨ i = .clear) :
    ∃ act, GatedCommand i act := by
  rcases h with rfl | rfl | rfl | rfl
  · exact ⟨_, .encode⟩
  · exact ⟨_, .decode⟩
  · exact ⟨_, .execute⟩
  · exact ⟨_, .clear⟩

theorem GatedCommand.eq {i : Instr} {act : CoreState → CoreState} (h : GatedCommand i act) :
    i = .encode ∨ i = .decode ∨ i = .execute ∨ i = .clear := by
  cases h <;> simp

theorem GatedCommand.exec_of_busy {i : Instr} {act : CoreState → CoreState} (h : GatedCommand i act) {s : State}
    (hbusy : s.core.fsm ≠ .idle) : Machine.exec i s = .next { s with core := refuse s.core } := by
  rw [h.exec, whenIdle_of_busy _ _ hbusy]

theorem hostWriteEvent_reservedCommand {v : Word} (h : 0x0006 ≤ v.toNat) :
    hostWriteEvent 0x00 v = .reservedCommand := by
  have reserved : decodeCommand v = .error .reservedCommand := by
    unfold decodeCommand
    split
    case h_7 => rfl
    all_goals omega
  simp [hostWriteEvent, decode, decodeHostWrite, reserved]

/-- Settles O29: the gate refuses the four commands, and a reserved code is an event of its own. -/
theorem refusedCommandSetsCmdErr : Obligations.RefusedCommandSetsCmdErr := by
  constructor
  · intro i s hi hbusy
    obtain ⟨act, command⟩ := GatedCommand.of_eq hi
    exact command.exec_of_busy hbusy
  · intro v s xs hv
    have events (k : CoreState) :
        inputEvents k (.cycle { Cycle.quiet with host := .write 0x00 v }) = [.reservedCommand] :=
      (cycleEvents_hostWrite k 0x00 v).trans (by rw [hostWriteEvent_reservedCommand hv])
    rw [step_present _ _ _ _ (events _), takenAnyway_cycle]
    simp [Cycle.quiet, runEvent, State.mapCore, refuse]

/-! ### CMD_ERR (R293) -/

/-- An accepted command keeps CMD_ERR, but for CLEAR, which clears it. -/
theorem GatedCommand.cmdErr {i : Instr} {act : CoreState → CoreState} (h : GatedCommand i act) (k : CoreState) :
    (act k).cmdErr = k.cmdErr ∨ ((act k).cmdErr = false ∧ i = .clear) := by
  cases h with
  | encode => rcases doEncode_cases k with ⟨-, heq⟩ | ⟨-, heq⟩ <;> exact .inl (by rw [heq]; rfl)
  | decode => rcases doDecode_cases k with ⟨-, heq⟩ | ⟨-, heq⟩ <;> exact .inl (by rw [heq]; rfl)
  | execute => rcases doExecute_cases k with ⟨-, heq⟩ | ⟨-, heq⟩ <;> exact .inl (by rw [heq]; rfl)
  | clear => exact .inr ⟨rfl, rfl⟩

/-- The instructions that are no event: Reset, the CRC port's writes, and the gated commands. -/
theorem not_isEvent_cases {i : Instr} (h : isEvent i = false) :
    i = .reset ∨ (i = .crcInit ∨ ∃ v, i = .crcData v) ∨ ∃ act, GatedCommand i act := by
  cases i
  case reset => exact .inl rfl
  case crcInit => exact .inr (.inl (.inl rfl))
  case crcData v => exact .inr (.inl (.inr ⟨v, rfl⟩))
  case encode => exact .inr (.inr ⟨_, .encode⟩)
  case decode => exact .inr (.inr ⟨_, .decode⟩)
  case execute => exact .inr (.inr ⟨_, .execute⟩)
  case clear => exact .inr (.inr ⟨_, .clear⟩)
  all_goals cases h

/-- Settles O30: events and the CRC port keep CMD_ERR, Reset clears it, and of the gated commands the refusal sets it. -/
theorem cmdErrIsSticky : Obligations.CmdErrIsSticky := by
  intro i s t h
  cases hev : isEvent i with
  | true => exact .inl (exec_event_keeps i s t hev h).cmdErr
  | false =>
    obtain rfl | (rfl | ⟨v, rfl⟩) | ⟨act, command⟩ := not_isEvent_cases hev
    · cases h; exact .inr (.inr ⟨rfl, .inl rfl⟩)
    · cases h; exact .inl rfl
    · cases h; exact .inl rfl
    · by_cases hidle : s.core.fsm = .idle
      · cases (command.exec s).symm.trans h
        rw [whenIdle_of_idle _ _ hidle]
        exact (command.cmdErr s.core).imp_right fun ⟨cleared, hi⟩ => .inr ⟨cleared, .inr ⟨hi, hidle⟩⟩
      · cases (command.exec_of_busy hidle).symm.trans h
        exact .inr (.inl ⟨rfl, hidle, command.eq⟩)

end Sys2Proof.Machine
end

/-! PROOFS. The transaction against a device that never answers (43_transaction.md, R228). -/

section
namespace Sys2Proof.Machine

/-! ### One silent attempt (R223, R224) -/

/-- The core in WAIT after `n` Ticks that have ended nothing: `countWait`, `n` times. -/
def countedWait (n : Nat) (k : CoreState) : CoreState := { k with respTimer := k.respTimer + BitVec.ofNat 16 n }

@[simp] theorem countedWait_attempts (n : Nat) (k : CoreState) : (countedWait n k).attempts = k.attempts := rfl
@[simp] theorem countedWait_regs (n : Nat) (k : CoreState) : (countedWait n k).regs = k.regs := rfl

theorem countedWait_keeps (n : Nat) (k : CoreState) : Keeps k (countedWait n k) := by
  constructor <;> rfl

theorem openWindow_keeps (k : CoreState) : Keeps k (openWindow k) := by
  constructor <;> rfl

theorem countedWait_countWait (n : Nat) (k : CoreState) : countedWait n (countWait k) = countedWait (n + 1) k := by
  have count : k.respTimer + 1 + BitVec.ofNat 16 n = k.respTimer + BitVec.ofNat 16 (n + 1) := by
    rw [Nat.add_comm n 1, BitVec.ofNat_add, BitVec.add_assoc]
    rfl
  simp only [countedWait, countWait, count]

/-- The Tick at which resp_timer reaches its limit closes the window: an induction over the Ticks before it. -/
theorem ticks_of_no_answer (n : Nat) {k : CoreState} (hwait : k.fsm = .wait)
    (hresp : k.respTimer.toNat + (n + 1) = max 1 k.respTimeout.toNat) :
    ticks (n + 1) k = raise .timeout (countedWait (n + 1) k) := by
  have bound := k.respTimeout.isLt
  have next := toNat_add_one (t := k.respTimer) (by omega)
  induction n generalizing k with
  | zero =>
    have closed : expired (k.respTimer + 1) k.respTimeout = true := expired_iff.2 (by omega)
    rw [ticks, ticks, tickEvent_wait k hwait, if_pos closed]
    rfl
  | succ n ih =>
    have waiting : ¬expired (k.respTimer + 1) k.respTimeout = true := by rw [expired_iff]; omega
    rw [ticks, tickEvent_wait k hwait, if_neg waiting, ← countedWait_countWait]
    refine ih (k := countWait k) hwait ?_ bound (toNat_add_one ?_)
    · rw [countWait_respTimer, countWait_respTimeout, next]; omega
    · rw [countWait_respTimer, next]; omega

theorem execAll_replicate_txAccept (n : Nat) (s : State) :
    execAll (List.replicate n .txAccept) s = .next (acceptBytes n s) := by
  induction n generalizing s with
  | zero => rfl
  | succ n ih => exact ih (acceptByte s)

/-- The transport takes the eight bytes of the frame, and then Ticks pass until the window of `respTimeout` closes. -/
def silentAttempt (respTimeout : Word) : List Instr :=
  List.replicate 8 .txAccept ++ List.replicate (max 1 respTimeout.toNat) .tick

/-- The machine after a silent attempt: the frame is sent and Timeout is raised. -/
def afterSilentAttempt (s : State) : State where
  core := raise .timeout (countedWait (max 1 s.core.respTimeout.toNat) (openWindow s.core))
  port := { s.port with txStream := s.port.txStream ++ s.core.txbuf.toList }

theorem execAll_silentAttempt {s : State} (htx : s.core.fsm = .tx) (hidx : s.core.txIdx = 0) :
    execAll (silentAttempt s.core.respTimeout) s = .next (afterSilentAttempt s) := by
  obtain ⟨n, limit⟩ : ∃ n, max 1 s.core.respTimeout.toNat = n + 1 := Nat.exists_eq_add_one.2 (by omega)
  have closed : ticks (n + 1) (openWindow s.core) = raise .timeout (countedWait (n + 1) (openWindow s.core)) :=
    ticks_of_no_answer n rfl (by rw [openWindow_respTimeout, limit]; exact Nat.zero_add _)
  rw [silentAttempt, execAll_append _ _ _ _ (execAll_replicate_txAccept 8 s), execAll_replicate_tick,
    acceptBytes_rest 7 s htx (by simp [hidx]), hidx, afterSilentAttempt, limit, ← closed]
  rfl

theorem afterSilentAttempt_keeps (s : State) : Keeps s.core (afterSilentAttempt s).core :=
  ((openWindow_keeps s.core).trans (countedWait_keeps _ _)).trans (raise_keeps .timeout (countedWait _ _))

/-! ### All attempts (R227, R228) -/

/-- `t` is the end of an EXECUTE whose frame was sent `n` more times since `s` without an answer. -/
structure GaveUp (n : Nat) (s t : State) : Prop where
  idle : t.core.fsm = .idle
  done : t.core.done = true
  ok : t.core.ok = false
  err : t.core.err = .transactionFailed
  lastErr : t.core.lastErr = .timeout
  attempts : t.core.attempts.toNat = s.core.maxRetries.toNat + 1
  sent : t.port.txStream = s.port.txStream ++ (List.replicate n s.core.txbuf.toList).flatten
  regs : t.core.regs = s.core.regs

/-- While a retry is left Timeout starts the next attempt at once. -/
theorem afterSilentAttempt_retry {s : State} (hmode : s.core.mode = .execute)
    (left : s.core.attempts.toNat ≤ s.core.maxRetries.toNat) :
    (afterSilentAttempt s).core = retryAttempt (discardFrame .timeout
      (countedWait (max 1 s.core.respTimeout.toNat) (openWindow s.core))) :=
  fail_of_retry _ _ hmode left

theorem afterSilentAttempt_gaveUp {s : State} (hmode : s.core.mode = .execute)
    (spent : s.core.attempts.toNat = s.core.maxRetries.toNat + 1) : GaveUp 1 s (afterSilentAttempt s) := by
  have ended : (afterSilentAttempt s).core = complete false .transactionFailed (discardFrame .timeout
      (countedWait (max 1 s.core.respTimeout.toNat) (openWindow s.core))) :=
    fail_of_spent _ _ hmode (show ¬s.core.attempts.toNat ≤ s.core.maxRetries.toNat by omega)
  constructor
  case sent => simp [afterSilentAttempt]
  all_goals simp [ended, spent]

/-- After a retry the attempts still to come are all but the first of those since `s`. -/
theorem GaveUp.of_retry {n : Nat} {s t : State} (hmode : s.core.mode = .execute)
    (left : s.core.attempts.toNat ≤ s.core.maxRetries.toNat) (h : GaveUp n (afterSilentAttempt s) t) :
    GaveUp (n + 1) s t := by
  have retried := afterSilentAttempt_retry hmode left
  have kept := afterSilentAttempt_keeps s
  have regs : (afterSilentAttempt s).core.regs = s.core.regs := by simp [retried]
  refine { h with
    attempts := kept.maxRetries ▸ h.attempts
    sent := ?_
    regs := h.regs.trans regs }
  rw [h.sent, kept.txbuf, List.replicate_succ, List.flatten_cons, ← List.append_assoc]
  rfl

/-- An induction over the retries left: the last attempt gives up, and each before it starts the next with one more
counted. -/
theorem execAll_silentAttempts (n : Nat) {s : State} (htx : s.core.fsm = .tx) (hidx : s.core.txIdx = 0)
    (hmode : s.core.mode = .execute) (left : s.core.attempts.toNat + n = s.core.maxRetries.toNat + 1) :
    ∃ t, execAll (List.replicate (n + 1) (silentAttempt s.core.respTimeout)).flatten s = .next t
      ∧ GaveUp (n + 1) s t := by
  induction n generalizing s with
  | zero => exact ⟨_, by simpa using execAll_silentAttempt htx hidx, afterSilentAttempt_gaveUp hmode left⟩
  | succ n ih =>
    have retry_left : s.core.attempts.toNat ≤ s.core.maxRetries.toNat := by omega
    have counted : (s.core.attempts + 1).toNat + n = s.core.maxRetries.toNat + 1 := by
      have := s.core.maxRetries.isLt
      bv_omega
    have retried := afterSilentAttempt_retry hmode retry_left
    have kept := afterSilentAttempt_keeps s
    obtain ⟨t, run, gaveUp⟩ := ih (s := afterSilentAttempt s) (by simp [retried]) (by simp [retried])
      (kept.mode.trans hmode) (by rw [kept.maxRetries, ← counted]; simp [retried])
    refine ⟨t, ?_, gaveUp.of_retry hmode retry_left⟩
    rw [List.replicate_succ, List.flatten_cons, execAll_append _ _ _ _ (execAll_silentAttempt htx hidx),
      ← kept.respTimeout]
    exact run

/-- Settles O31: EXECUTE offers the frame with one attempt counted and MAX_RETRIES left. -/
theorem silentTransportFailsAfterAllRetries : Obligations.SilentTransportFailsAfterAllRetries := by
  intro s hidle hvalid attempt sends frame
  obtain ⟨t, run, gaveUp⟩ := execAll_silentAttempts s.core.maxRetries.toNat
    (s := s.mapCore fun k => startExecute (loadRequest (clearResults k))) rfl rfl rfl (Nat.add_comm _ _)
  obtain ⟨idle, done, ok, err, lastErr, attempts, sent, regs⟩ := gaveUp
  exact ⟨t, (execAll_cons _ (execute_of_requestOk s hidle hvalid)).trans run, idle, done, ok, err, lastErr, attempts,
    sent, regs⟩

end Sys2Proof.Machine
end

/-! PROOFS. The independence of a run from the past (43_transaction.md, R235 with R328): a relation between two machines
that an accepted EXECUTE of the same request establishes and every event keeps. -/

section
namespace Sys2Proof.Machine

/-! ### Two cores with different pasts -/

/-- The core without the fields in which an earlier operation may have left something that no result shows: CMD_ERR, the
CRC port, the buffers, and the hidden variables that have a meaning in some states of fsm only. -/
def blank (k : CoreState) : CoreState :=
  { k with
    cmdErr := false, crcAcc := 0
    regs := Vector.replicate 125 0, txbuf := Vector.replicate 8 0, rxbuf := Vector.replicate 255 0
    txIdx := 0, expLen := 0, respTimer := 0, ibTimer := 0, mode := .execute }

/-- Two cores agree on the hidden variables that the operation in progress reads. -/
structure SameOperation (k l : CoreState) : Prop where
  mode : k.mode = l.mode
  expLen : k.expLen = l.expLen
  txLen : k.mode = .execute → k.txLen ≠ 0
  txIdx : k.fsm = .tx → k.mode = .execute ∧ k.txIdx = l.txIdx
  timers : k.fsm = .wait ∨ k.fsm = .recv → k.respTimer = l.respTimer ∧ k.ibTimer = l.ibTimer

/-- Two cores agree on what the rest of a run can read or show: of TXBUF, RXBUF and REGS the entries that TX_LEN, rx_cnt
and RESP_NREG call valid, and in a busy state the operation in progress. -/
structure SameRun (k l : CoreState) : Prop where
  shown : blank k = blank l
  collected : collectedFrame k = collectedFrame l
  txbuf : k.txLen ≠ 0 → k.txbuf = l.txbuf
  regs : ∀ i : Fin 125, i.val < k.respNreg.toNat → k.regs[i] = l.regs[i]
  operation : k.fsm ≠ .idle → SameOperation k l

/-- What ignores the blanked fields is the same for both cores. -/
theorem SameRun.congr {α : Type} {k l : CoreState} (h : SameRun k l) (f : CoreState → α)
    (hf : ∀ k, f (blank k) = f k := by exact fun _ => rfl) : f k = f l :=
  (hf k).symm.trans ((congrArg f h.shown).trans (hf l))

theorem SameRun.fsm {k l : CoreState} (h : SameRun k l) : k.fsm = l.fsm := h.congr CoreState.fsm

theorem SameRun.sameRequest {k l : CoreState} (h : SameRun k l) : sameRequest k l :=
  ⟨h.congr CoreState.reqUnit, h.congr CoreState.reqFc, h.congr CoreState.reqAddr, h.congr CoreState.reqQty,
    h.congr CoreState.respTimeout, h.congr CoreState.ibTimeout, h.congr CoreState.maxRetries⟩

theorem SameRun.sameResult {k l : CoreState} (h : SameRun k l) : sameResult k l := by
  refine ⟨h.congr CoreState.done, h.congr CoreState.ok, h.congr CoreState.err, h.congr CoreState.lastErr,
    h.congr CoreState.attempts, h.congr CoreState.excCode, h.congr CoreState.respUnit, h.congr CoreState.respFc,
    h.congr CoreState.respBc, h.congr CoreState.respNreg, h.congr CoreState.txLen, fun i hi => ?_, h.regs⟩
  have valid : k.txLen ≠ 0 := by
    intro h0
    simp [h0] at hi
  rw [h.txbuf valid]

/-- A branch on a condition that both cores answer alike. -/
theorem SameRun.ite {p q : Prop} [Decidable p] [Decidable q] {k l k' l' : CoreState} (hpq : p ↔ q)
    (h : SameRun k l) (h' : SameRun k' l') : SameRun (if p then k else k') (if q then l else l') := by
  by_cases hp : p
  · rwa [if_pos hp, if_pos (hpq.1 hp)]
  · rwa [if_neg hp, if_neg (mt hpq.2 hp)]

/-! ### The shared operations keep the relation -/

theorem collectedFrame_of_zero {k : CoreState} (h : k.rxCnt = 0) : collectedFrame k = [] := by
  simp [collectedFrame, h]

theorem collectedFrame_eq_of_zero {k l : CoreState} (hk : k.rxCnt = 0) (hl : l.rxCnt = 0) :
    collectedFrame k = collectedFrame l :=
  (collectedFrame_of_zero hk).trans (collectedFrame_of_zero hl).symm

theorem complete_sameRun {k l : CoreState} (ok : Bool) (err : ErrKind) (h : SameRun k l) :
    SameRun (complete ok err k) (complete ok err l) where
  shown := h.congr fun k => blank (complete ok err k)
  collected := collectedFrame_eq_of_zero rfl rfl
  txbuf := h.txbuf
  regs := h.regs
  operation busy := absurd rfl busy

theorem discardFrame_sameRun {k l : CoreState} (e : ErrKind) (h : SameRun k l) :
    SameRun (discardFrame e k) (discardFrame e l) where
  shown := h.congr fun k => blank (discardFrame e k)
  collected := collectedFrame_eq_of_zero rfl rfl
  txbuf := h.txbuf
  regs := h.regs
  operation busy := { h.operation busy with }

theorem retryAttempt_sameRun {k l : CoreState} (h : SameRun k l) (hop : SameOperation k l) (hmode : k.mode = .execute) :
    SameRun (retryAttempt k) (retryAttempt l) where
  shown := h.congr fun k => blank (retryAttempt k)
  collected := collectedFrame_eq_of_zero rfl rfl
  txbuf := h.txbuf
  regs := h.regs
  operation _ := { hop with
    txIdx := fun _ => ⟨hmode, rfl⟩
    timers := by simp }

theorem fail_sameRun {k l : CoreState} (e : ErrKind) (h : SameRun k l) (busy : k.fsm ≠ .idle) :
    SameRun (fail e k) (fail e l) := by
  have hop := h.operation busy
  have attempts : k.attempts = l.attempts := h.congr CoreState.attempts
  have maxRetries : k.maxRetries = l.maxRetries := h.congr CoreState.maxRetries
  have discarded := discardFrame_sameRun e h
  rcases mode_cases k with hm | hm
  · by_cases hr : k.attempts.toNat ≤ k.maxRetries.toNat
    · rw [fail_of_retry e k hm hr, fail_of_retry e l (hop.mode ▸ hm) (attempts ▸ maxRetries ▸ hr)]
      exact retryAttempt_sameRun discarded (discarded.operation busy) hm
    · rw [fail_of_spent e k hm hr, fail_of_spent e l (hop.mode ▸ hm) (attempts ▸ maxRetries ▸ hr)]
      exact complete_sameRun _ _ discarded
  · rw [fail_of_decode e k hm, fail_of_decode e l (hop.mode ▸ hm)]
    exact complete_sameRun _ _ discarded

theorem raise_sameRun {k l : CoreState} (e : ErrKind) (h : SameRun k l) (busy : k.fsm ≠ .idle) :
    SameRun (raise e k) (raise e l) :=
  .ite Iff.rfl (fail_sameRun e h busy) (complete_sameRun false e h)

/-- The response fills every entry of REGS that RESP_NREG then calls valid. -/
theorem writeResponse_sameRun {k l : CoreState} (f : List Byte) {regs : List Word} (h : SameRun k l)
    (hlen : regs.length = k.reqQty.toNat) : SameRun (writeResponse f regs k) (writeResponse f regs l) where
  shown := h.congr fun k => blank (writeResponse f regs k)
  collected := collectedFrame_eq_of_zero rfl rfl
  txbuf := h.txbuf
  regs i hi := by
    have filled : i.val < k.reqQty.toNat := by
      rw [writeResponse_respNreg, BitVec.toNat_setWidth] at hi
      exact hi.trans_le (Nat.mod_le _ _)
    rw [writeResponse_regs, writeResponse_regs, storeRegs_get_of_length _ hlen, storeRegs_get_of_length _ hlen,
      if_pos filled, if_pos filled]
  operation busy := absurd rfl busy

theorem writeException_sameRun {k l : CoreState} (f : List Byte) (code : Byte) (h : SameRun k l) :
    SameRun (writeException f code k) (writeException f code l) where
  shown := h.congr fun k => blank (writeException f code k)
  collected := collectedFrame_eq_of_zero rfl rfl
  txbuf := h.txbuf
  regs := h.regs
  operation busy := absurd rfl busy

/-- Both cores judge the same frame by the same request. -/
theorem frameEnd_sameRun {k l : CoreState} (h : SameRun k l) (busy : k.fsm ≠ .idle) :
    SameRun (frameEnd k) (frameEnd l) := by
  obtain ⟨unit, fc, -, qty, -⟩ := h.sameRequest
  have verdict : validate (collectedFrame l) l.reqUnit l.reqFc l.reqQty
      = validate (collectedFrame k) k.reqUnit k.reqFc k.reqQty := by
    rw [← h.collected, ← unit, ← fc, ← qty]
  rcases frameEnd_cases k with ⟨regs, hv, heq⟩ | ⟨code, hv, heq⟩ | ⟨e, -, hv, heq⟩ <;> rw [heq]
  · obtain ⟨-, -, -, -, -, extracted⟩ := validate_ok _ _ _ _ _ hv
    rw [frameEnd_ok l regs (verdict.trans hv), ← h.collected]
    exact writeResponse_sameRun _ h (by rw [extracted, extractRegs_length])
  · rw [frameEnd_deviceException l code (verdict.trans hv), ← h.collected]
    exact writeException_sameRun _ code h
  · rw [frameEnd_error l e (verdict.trans hv)]
    exact raise_sameRun e h busy

/-! ### The events keep the relation -/

/-- The frame collected after one more byte; the count of a full buffer wraps to 0 (log 6, log 7). -/
theorem collectedFrame_takeByte (b : Byte) (k : CoreState) :
    collectedFrame (takeByte b k) = if k.rxCnt.toNat < 255 then collectedFrame k ++ [b] else [] := by
  have bound := k.rxCnt.isLt
  split
  next room =>
    have counted : (k.rxCnt + 1).toNat = k.rxCnt.toNat + 1 := by bv_omega
    rw [takeByte_of_lt b k room, collectedFrame, counted]
    simp [collectedFrame, List.take_add_one, Vector.toList_set, List.take_set_of_le, room]
  next full => exact collectedFrame_of_zero (by rw [takeByte_rxCnt]; bv_omega)

theorem takeByte_sameRun {k l : CoreState} (b : Byte) (h : SameRun k l) :
    SameRun (takeByte b k) (takeByte b l) where
  shown := h.congr fun k => blank (takeByte b k)
  collected := by
    have rxCnt : k.rxCnt = l.rxCnt := h.congr CoreState.rxCnt
    rw [collectedFrame_takeByte, collectedFrame_takeByte, h.collected, rxCnt]
  txbuf := h.txbuf
  regs := h.regs
  operation busy := { h.operation busy with
    timers := fun hf => ⟨((h.operation busy).timers hf).1, rfl⟩ }

theorem takeFirstByte_sameRun {k l : CoreState} (b : Byte) (h : SameRun k l) (hwait : k.fsm = .wait) :
    SameRun (takeFirstByte b k) (takeFirstByte b l) where
  shown := h.congr fun k => blank (takeFirstByte b k)
  collected := by simp [takeFirstByte_eq_received, collectedFrame_received]
  txbuf := h.txbuf
  regs := h.regs
  operation _ :=
    have hop := h.operation (by simp [hwait])
    { hop with
      txIdx := by simp
      timers := fun _ => ⟨(hop.timers (.inl hwait)).1, rfl⟩ }

theorem rxByteEvent_sameRun {k l : CoreState} (b : Byte) (h : SameRun k l) :
    SameRun (rxByteEvent b k) (rxByteEvent b l) := by
  cases hf : k.fsm with
  | idle => rwa [rxByteEvent_idle b k hf, rxByteEvent_idle b l (h.fsm ▸ hf)]
  | tx => rwa [rxByteEvent_tx b k hf, rxByteEvent_tx b l (h.fsm ▸ hf)]
  | wait =>
    rw [rxByteEvent_wait b k hf, rxByteEvent_wait b l (h.fsm ▸ hf)]
    exact takeFirstByte_sameRun b h hf
  | recv =>
    have rxCnt : k.rxCnt = l.rxCnt := h.congr CoreState.rxCnt
    have expLen := (h.operation (by simp [hf])).expLen
    have taken := takeByte_sameRun b h
    rw [rxByteEvent_recv b k hf, rxByteEvent_recv b l (h.fsm ▸ hf)]
    exact .ite (by rw [rxCnt, expLen]) (frameEnd_sameRun taken (by simp [hf])) taken

theorem countWait_sameRun {k l : CoreState} (h : SameRun k l) : SameRun (countWait k) (countWait l) where
  shown := h.congr fun k => blank (countWait k)
  collected := h.collected
  txbuf := h.txbuf
  regs := h.regs
  operation busy := { h.operation busy with
    timers := fun hf => ((h.operation busy).timers hf).imp_left (congrArg (· + 1)) }

theorem countRecv_sameRun {k l : CoreState} (h : SameRun k l) : SameRun (countRecv k) (countRecv l) where
  shown := h.congr fun k => blank (countRecv k)
  collected := h.collected
  txbuf := h.txbuf
  regs := h.regs
  operation busy := { h.operation busy with
    timers := fun hf => ((h.operation busy).timers hf).imp (congrArg (· + 1)) (congrArg (· + 1)) }

theorem tickEvent_sameRun {k l : CoreState} (h : SameRun k l) : SameRun (tickEvent k) (tickEvent l) := by
  obtain ⟨-, -, -, -, respTimeout, ibTimeout, -⟩ := h.sameRequest
  cases hf : k.fsm with
  | idle => rwa [tickEvent_idle k hf, tickEvent_idle l (h.fsm ▸ hf)]
  | tx => rwa [tickEvent_tx k hf, tickEvent_tx l (h.fsm ▸ hf)]
  | wait =>
    obtain ⟨respTimer, -⟩ := (h.operation (by simp [hf])).timers (.inl hf)
    have counted := countWait_sameRun h
    rw [tickEvent_wait k hf, tickEvent_wait l (h.fsm ▸ hf)]
    exact .ite (by rw [respTimer, respTimeout]) (raise_sameRun _ counted (by simp [hf])) counted
  | recv =>
    obtain ⟨respTimer, ibTimer⟩ := (h.operation (by simp [hf])).timers (.inr hf)
    have counted := countRecv_sameRun h
    rw [tickEvent_recv k hf, tickEvent_recv l (h.fsm ▸ hf)]
    exact .ite (by rw [ibTimer, ibTimeout]) (frameEnd_sameRun counted (by simp [hf]))
      (.ite (by rw [respTimer, respTimeout]) (raise_sameRun _ counted (by simp [hf])) counted)

theorem openWindow_sameRun {k l : CoreState} (h : SameRun k l) (hop : SameOperation k l) :
    SameRun (openWindow k) (openWindow l) where
  shown := h.congr fun k => blank (openWindow k)
  collected := h.collected
  txbuf := h.txbuf
  regs := h.regs
  operation _ := { hop with
    txIdx := by simp
    timers := fun _ => ⟨rfl, rfl⟩ }

theorem txAcceptEvent_sameRun {k l : CoreState} (h : SameRun k l) : SameRun (txAcceptEvent k) (txAcceptEvent l) := by
  by_cases hf : k.fsm = .tx
  · have hop := h.operation (by simp [hf])
    obtain ⟨mode, txIdx⟩ := hop.txIdx hf
    have next : SameRun { k with txIdx := k.txIdx + 1 } { l with txIdx := l.txIdx + 1 } := { h with
      operation := fun _ => { hop with txIdx := fun _ => ⟨mode, congrArg (· + 1) txIdx⟩ } }
    rw [txAcceptEvent_tx k hf, txAcceptEvent_tx l (h.fsm ▸ hf)]
    exact .ite (by rw [txIdx]) next (openWindow_sameRun h hop)
  · rwa [txAcceptEvent_of_ne k hf, txAcceptEvent_of_ne l (h.fsm ▸ hf)]

theorem ioErrorEvent_sameRun {k l : CoreState} (h : SameRun k l) : SameRun (ioErrorEvent k) (ioErrorEvent l) := by
  by_cases hf : k.fsm = .idle
  · rwa [ioErrorEvent_idle k hf, ioErrorEvent_idle l (h.fsm ▸ hf)]
  · rw [ioErrorEvent_busy k hf, ioErrorEvent_busy l (h.fsm ▸ hf)]
    exact complete_sameRun _ _ h

theorem deliver_sameRun (f : List Byte) {k l : CoreState} (h : SameRun k l) : SameRun (deliver f k) (deliver f l) := by
  induction f generalizing k l with
  | nil => exact h
  | cons b f ih => exact ih (rxByteEvent_sameRun b h)

theorem ticks_sameRun (n : Nat) {k l : CoreState} (h : SameRun k l) : SameRun (ticks n k) (ticks n l) := by
  induction n generalizing k l with
  | zero => exact h
  | succ n ih => exact ih (tickEvent_sameRun h)

theorem receiveFrame_sameRun (f : List Byte) {k l : CoreState} (h : SameRun k l) :
    SameRun (receiveFrame f k) (receiveFrame f l) := by
  have silence : silenceTicks k = silenceTicks l := h.congr silenceTicks
  rw [receiveFrame, receiveFrame, silence]
  exact ticks_sameRun _ (deliver_sameRun f h)

/-! ### The commands and host writes keep the relation, and EXECUTE establishes it -/

theorem refuse_sameRun {k l : CoreState} (h : SameRun k l) : SameRun (refuse k) (refuse l) :=
  { h with operation := fun busy => { h.operation busy with } }

theorem crcPort_sameRun {k l : CoreState} (h : SameRun k l) (c d : Word) :
    SameRun { k with crcAcc := c } { l with crcAcc := d } :=
  { h with operation := fun busy => { h.operation busy with } }

theorem reset_sameRun : SameRun CoreState.reset CoreState.reset :=
  ⟨rfl, rfl, fun _ => rfl, fun _ _ => rfl, fun busy => absurd rfl busy⟩

theorem requestFrame_congr {k l : CoreState} (h : sameRequest k l) : requestFrame k = requestFrame l := by
  obtain ⟨unit, fc, addr, qty, -⟩ := h
  simp only [requestFrame, unit, fc, addr, qty]

/-- After a request is accepted or refused nothing that a run can show is left of what stood before, but the request and
the configuration. -/
theorem doExecute_sameRun {k l : CoreState} (h : sameRequest k l) : SameRun (doExecute k) (doExecute l) := by
  have frame := requestFrame_congr h
  obtain ⟨unit, fc, addr, qty, respTimeout, ibTimeout, maxRetries⟩ := h
  have valid := requestOk_congr k l unit fc addr qty
  refine .ite (by rw [valid]) ?accepted ?refused
  case accepted =>
    exact {
      shown := by
        simp only [blank, startExecute, startAttempt, loadRequest, clearResults, unit, fc, addr, qty, respTimeout,
          ibTimeout, maxRetries]
      collected := collectedFrame_eq_of_zero rfl rfl
      txbuf := fun _ => frame
      regs := fun _ hi => absurd hi (by simp)
      operation := fun _ =>
        { mode := rfl
          expLen := by simp [expectedLength, qty]
          txLen := by simp
          txIdx := fun _ => ⟨rfl, rfl⟩
          timers := by simp } }
  case refused =>
    exact {
      shown := by
        simp only [blank, rejectRequest, raise_of_terminal .invalidRequest _ rfl, complete, clearResults, unit, fc,
          addr, qty, respTimeout, ibTimeout, maxRetries]
      collected := collectedFrame_eq_of_zero rfl rfl
      txbuf := by simp
      regs := fun _ hi => absurd hi (by simp)
      operation := fun busy => absurd rfl busy }

theorem startDecode_sameRun {k l : CoreState} (h : SameRun k l) :
    SameRun (startDecode (clearResults k)) (startDecode (clearResults l)) where
  shown := h.congr fun k => blank (startDecode (clearResults k))
  collected := collectedFrame_eq_of_zero rfl rfl
  txbuf := h.txbuf
  regs _ hi := absurd hi (by simp)
  operation _ :=
    { mode := rfl
      expLen := h.congr expectedLength
      txLen := by simp
      txIdx := by simp
      timers := fun _ => ⟨rfl, rfl⟩ }

/-- In IDLE clearing the results leaves RESP_NREG 0 and no operation to agree on. -/
theorem clearResults_sameRun {k l : CoreState} (h : SameRun k l) (hidle : k.fsm = .idle) :
    SameRun (clearResults k) (clearResults l) where
  shown := h.congr fun k => blank (clearResults k)
  collected := h.collected
  txbuf := h.txbuf
  regs _ hi := absurd hi (by simp)
  operation busy := absurd hidle busy

theorem loadRequest_sameRun {k l : CoreState} (h : SameRun k l) (hidle : k.fsm = .idle) :
    SameRun (loadRequest k) (loadRequest l) where
  shown := h.congr fun k => blank (loadRequest k)
  collected := h.collected
  txbuf _ := requestFrame_congr h.sameRequest
  regs := h.regs
  operation busy := absurd hidle busy

theorem rejectRequest_sameRun {k l : CoreState} (h : SameRun k l) : SameRun (rejectRequest k) (rejectRequest l) where
  shown := h.congr fun k => blank (rejectRequest k)
  collected := collectedFrame_eq_of_zero rfl rfl
  txbuf := by simp
  regs := h.regs
  operation busy := absurd rfl busy

theorem GatedCommand.sameRun {i : Instr} {act : CoreState → CoreState} (hi : GatedCommand i act) {k l : CoreState}
    (h : SameRun k l) (hidle : k.fsm = .idle) : SameRun (act k) (act l) := by
  have valid : requestOk k = requestOk l := h.congr requestOk
  have cleared := clearResults_sameRun h hidle
  cases hi with
  | encode =>
    exact .ite (by rw [valid]) (complete_sameRun _ _ (loadRequest_sameRun cleared hidle))
      (rejectRequest_sameRun cleared)
  | decode => exact .ite (by rw [valid]) (startDecode_sameRun h) (complete_sameRun _ _ cleared)
  | execute => exact doExecute_sameRun h.sameRequest
  | clear =>
    exact { h with
      shown := h.congr fun k => blank (clearFlags k)
      operation := fun busy => absurd hidle busy }

theorem GatedCommand.whenIdle_sameRun {i : Instr} {act : CoreState → CoreState} (hi : GatedCommand i act)
    {k l : CoreState} (h : SameRun k l) : SameRun (whenIdle act k) (whenIdle act l) := by
  by_cases hidle : k.fsm = .idle
  · rw [whenIdle_of_idle act k hidle, whenIdle_of_idle act l (h.fsm ▸ hidle)]
    exact hi.sameRun h hidle
  · rw [whenIdle_of_busy act k hidle, whenIdle_of_busy act l (h.fsm ▸ hidle)]
    exact refuse_sameRun h

theorem storeRegister_sameRun {k l : CoreState} (a : Byte) (v : Word) (h : SameRun k l) (hidle : k.fsm = .idle) :
    SameRun (storeRegister a v k) (storeRegister a v l) := by
  have stored (k : CoreState) : blank (storeRegister a v k) = storeRegister a v (blank k) := by
    rw [storeRegister_eq, storeRegister_eq]
    rfl
  have shown : blank (storeRegister a v k) = blank (storeRegister a v l) := by rw [stored, stored, h.shown]
  rw [storeRegister_eq a v k, storeRegister_eq a v l] at shown ⊢
  exact { h with
    shown := shown
    operation := fun busy => absurd hidle busy }

theorem hostWriteRegister_sameRun {k l : CoreState} (a : Byte) (v : Word) (h : SameRun k l) :
    SameRun (hostWriteRegister a v k) (hostWriteRegister a v l) := by
  rw [hostWriteRegister, hostWriteRegister]
  refine .ite Iff.rfl ?_ h
  by_cases hidle : k.fsm = .idle
  · have hidle' : l.fsm = .idle := h.fsm ▸ hidle
    rw [if_neg (by simp [busy_iff, hidle]), if_neg (by simp [busy_iff, hidle'])]
    exact storeRegister_sameRun a v h hidle
  · rw [if_pos ((busy_iff k).2 hidle), if_pos ((busy_iff l).2 (h.fsm ▸ hidle))]
    exact refuse_sameRun h

/-! ### Two machines with different pasts -/

/-- Two machines agree on the rest of a run, and have handed the same bytes to the TX stream since these read `p` and
`q`. -/
structure SameSince (p q : List Byte) (s t : State) : Prop where
  core : SameRun s.core t.core
  sent : ∃ sent, s.port.txStream = p ++ sent ∧ t.port.txStream = q ++ sent

theorem SameSince.mapCore {p q : List Byte} {s t : State} {f : CoreState → CoreState} (h : SameSince p q s t)
    (hf : SameRun (f s.core) (f t.core)) : SameSince p q (s.mapCore f) (t.mapCore f) := ⟨hf, h.sent⟩

/-- In TX both offer the same byte. -/
theorem SameRun.tx {k l : CoreState} (h : SameRun k l) (hf : k.fsm = .tx) : k.txIdx = l.txIdx ∧ k.txbuf = l.txbuf := by
  have hop := h.operation (by simp [hf])
  obtain ⟨mode, txIdx⟩ := hop.txIdx hf
  exact ⟨txIdx, h.txbuf (hop.txLen mode)⟩

theorem acceptByte_sameSince {p q : List Byte} {s t : State} (h : SameSince p q s t) :
    SameSince p q (acceptByte s) (acceptByte t) := by
  refine ⟨by rw [acceptByte_core, acceptByte_core]; exact txAcceptEvent_sameRun h.core, ?_⟩
  by_cases hf : s.core.fsm = .tx
  · have hf' : t.core.fsm = .tx := h.core.fsm ▸ hf
    obtain ⟨txIdx, txbuf⟩ := h.core.tx hf
    obtain ⟨sent, hs, ht⟩ := h.sent
    refine ⟨sent ++ [s.core.txbuf.getD s.core.txIdx.toNat 0], ?_, ?_⟩
    · simp [acceptByte, txData, (txValid_iff _).2 hf, hs]
    · simp [acceptByte, txData, (txValid_iff _).2 hf', ht, txIdx, txbuf]
  · rw [acceptByte_of_ne s hf, acceptByte_of_ne t (h.core.fsm ▸ hf)]
    exact h.sent

theorem acceptBytes_sameSince (n : Nat) {p q : List Byte} {s t : State} (h : SameSince p q s t) :
    SameSince p q (acceptBytes n s) (acceptBytes n t) := by
  induction n generalizing s t with
  | zero => exact h
  | succ n ih => exact ih (acceptByte_sameSince h)

theorem offersFrame_congr (f : List Byte) {k l : CoreState} (h : SameRun k l) : offersFrame f k = offersFrame f l := by
  rw [Bool.eq_iff_iff, offersFrame_iff, offersFrame_iff, ← h.fsm]
  refine and_congr_right fun hf => ?_
  obtain ⟨txIdx, txbuf⟩ := h.tx hf
  rw [txIdx, txbuf]

theorem exec_sameSince (i : Instr) {p q : List Byte} {s t : State} (h : SameSince p q s t) :
    ∃ s' t', exec i s = .next s' ∧ exec i t = .next t' ∧ SameSince p q s' t' := by
  cases i
  case reqRhr unit addr qty crc =>
    refine ⟨_, _, execReqRhr_eq unit addr qty crc s, execReqRhr_eq unit addr qty crc t, ?_⟩
    rw [← offersFrame_congr _ h.core]
    split
    · exact acceptBytes_sameSince _ h
    · exact h
  all_goals refine ⟨_, _, rfl, rfl, ?_⟩
  case rspRhr => exact h.mapCore (receiveFrame_sameRun _ h.core)
  case rspExc => exact h.mapCore (receiveFrame_sameRun _ h.core)
  case nop => exact h
  case encode => exact h.mapCore (GatedCommand.encode.whenIdle_sameRun h.core)
  case decode => exact h.mapCore (GatedCommand.decode.whenIdle_sameRun h.core)
  case execute => exact h.mapCore (GatedCommand.execute.whenIdle_sameRun h.core)
  case clear => exact h.mapCore (GatedCommand.clear.whenIdle_sameRun h.core)
  case crcInit => exact h.mapCore (crcPort_sameRun h.core _ _)
  case crcData v => exact h.mapCore (crcPort_sameRun h.core _ _)
  case reset => exact h.mapCore reset_sameRun
  case ioErr => exact h.mapCore (ioErrorEvent_sameRun h.core)
  case rxByte b => exact h.mapCore (rxByteEvent_sameRun b h.core)
  case tick => exact h.mapCore (tickEvent_sameRun h.core)
  case txAccept => exact acceptByte_sameSince h

theorem runEvent_sameSince (e : Event) {p q : List Byte} {s t : State} (h : SameSince p q s t) :
    ∃ s' t', runEvent e s = .next s' ∧ runEvent e t = .next t' ∧ SameSince p q s' t' := by
  cases e with
  | instr i => exact exec_sameSince i h
  | reservedCommand => exact ⟨_, _, rfl, rfl, h.mapCore (refuse_sameRun h.core)⟩
  | regWrite a v => exact ⟨_, _, rfl, rfl, h.mapCore (hostWriteRegister_sameRun a v h.core)⟩
  | hostRead a => exact ⟨_, _, rfl, rfl, ⟨h.core, h.sent⟩⟩
  | burst f => exact ⟨_, _, rfl, rfl, h.mapCore (receiveFrame_sameRun f h.core)⟩

theorem runAll_sameSince (es : List Event) {p q : List Byte} {s t s' t' : State} (h : SameSince p q s t)
    (hs : runAll es s = .next s') (ht : runAll es t = .next t') : SameSince p q s' t' := by
  induction es generalizing s t with
  | nil => cases hs; cases ht; exact h
  | cons e es ih =>
    obtain ⟨u, v, hu, hv, h'⟩ := runEvent_sameSince e h
    exact ih h' ((runAll_cons e es s u hu).symm.trans hs) ((runAll_cons e es t v hv).symm.trans ht)

theorem runAll_execute_of_idle (es : List Event) {s : State} (hidle : s.core.fsm = .idle) :
    runAll (.instr .execute :: es) s = runAll es (s.mapCore doExecute) := by
  refine runAll_cons _ es s _ ((exec_execute s).trans ?_)
  rw [whenIdle_of_idle _ _ hidle]
  rfl

/-- Settles O60: the accepted EXECUTE makes the two machines agree with nothing sent yet, and the events keep that. -/
theorem executeForgetsThePast : Obligations.ExecuteForgetsThePast := by
  intro es s₁ s₂ t₁ t₂ hidle₁ hidle₂ hreq run₁ run₂
  have accepted : SameSince s₁.port.txStream s₂.port.txStream (s₁.mapCore doExecute) (s₂.mapCore doExecute) :=
    ⟨doExecute_sameRun hreq, [], by simp, by simp⟩
  rw [runAll_execute_of_idle es hidle₁] at run₁
  rw [runAll_execute_of_idle es hidle₂] at run₂
  obtain ⟨core, sent⟩ := runAll_sameSince es accepted run₁ run₂
  exact ⟨⟨core.sameResult, sent⟩, core.fsm⟩

end Sys2Proof.Machine
end

/-! PROOFS. Errors in place of exceptions (60_exceptions.md): an error that is not retryable, and the bound on the
response window. -/

section
namespace Sys2Proof.Machine

/-! ### A non-retryable error (R279) -/

/-- Settles O18: each of the three kinds is outside the retryable set, so `raise` completes with it. -/
theorem nonRetryableErrorCompletes : Obligations.NonRetryableErrorCompletes := by
  intro e k he
  have terminal : retryable e = false := by rcases he with rfl | rfl | rfl <;> rfl
  rw [raise_of_terminal e k terminal, complete]

/-! ### The bound on the response window (R286, R324)

A byte leaves resp_timer and a Tick counts it, or they close the window. -/

/-- The response window is closed, or at most `n` further Ticks bring resp_timer to the limit that R288 gives it. -/
def ClosesWithin (n : Nat) (k : CoreState) : Prop :=
  (k.fsm = .idle ∨ k.fsm = .tx) ∨ max 1 k.respTimeout.toNat ≤ k.respTimer.toNat + n

theorem fsm_closed_or_open (k : CoreState) : (k.fsm = .idle ∨ k.fsm = .tx) ∨ k.fsm = .wait ∨ k.fsm = .recv := by
  cases k.fsm <;> simp

theorem rxByteEvent_closes_or_keeps_respTimer (b : Byte) (k : CoreState) :
    ((rxByteEvent b k).fsm = .idle ∨ (rxByteEvent b k).fsm = .tx) ∨ (rxByteEvent b k).respTimer = k.respTimer := by
  obtain closed | hwait | hrecv := fsm_closed_or_open k
  · rw [rxByteEvent_dropped b closed]
    exact .inl closed
  · rw [rxByteEvent_wait b k hwait]
    exact .inr rfl
  · rw [rxByteEvent_recv b k hrecv]
    split
    · exact .inl (frameEnd_fsm _)
    · exact .inr rfl

theorem tickEvent_closes_or_counts_respTimer (k : CoreState) :
    ((tickEvent k).fsm = .idle ∨ (tickEvent k).fsm = .tx) ∨ (tickEvent k).respTimer = k.respTimer + 1 := by
  obtain closed | hwait | hrecv := fsm_closed_or_open k
  · rw [tickEvent_dropped closed]
    exact .inl closed
  · rw [tickEvent_wait k hwait]
    split
    · exact .inl (raise_fsm _ _)
    · exact .inr rfl
  · rw [tickEvent_recv k hrecv]
    split
    · exact .inl (frameEnd_fsm _)
    · split
      · exact .inl (raise_fsm _ _)
      · exact .inr rfl

namespace ClosesWithin

variable {n : Nat} {k : CoreState}

/-- In an open window the invariant keeps resp_timer below its limit (R53 item 10). -/
theorem closed (h : ClosesWithin 0 k) (hinv : k.Inv) : k.fsm = .idle ∨ k.fsm = .tx := by
  obtain closed | hopen := fsm_closed_or_open k
  · exact closed
  · obtain ⟨below, -⟩ := hinv.timers hopen
    exact h.resolve_right (by omega)

theorem rxByte (b : Byte) (h : ClosesWithin n k) : ClosesWithin n (rxByteEvent b k) := by
  obtain closed | limit := h
  · rw [rxByteEvent_dropped b closed]
    exact .inl closed
  · refine (rxByteEvent_closes_or_keeps_respTimer b k).imp_right fun timer => ?_
    rwa [timer, (rxByteEvent_keeps b k).respTimeout]

/-- The invariant keeps the count below the top of its range, so that a Tick counts without a wrap. -/
theorem tick (h : ClosesWithin (n + 1) k) (hinv : k.Inv) : ClosesWithin n (tickEvent k) := by
  obtain closed | hopen := fsm_closed_or_open k
  · rw [tickEvent_dropped closed]
    exact .inl closed
  · obtain ⟨below, -⟩ := hinv.timers hopen
    have top := k.respTimeout.isLt
    have limit := h.resolve_left (by rcases hopen with hf | hf <;> simp [hf])
    refine (tickEvent_closes_or_counts_respTimer k).imp_right fun timer => ?_
    rw [timer, toNat_add_one (by omega), (tickEvent_keeps k).respTimeout]
    omega

end ClosesWithin

/-- An induction over the events: the invariant is kept, and each Tick is one of those that the window has left. -/
theorem execAll_closesWithin (is : List Instr) {s : State} (hinv : s.Inv)
    (events : ∀ i ∈ is, i = .tick ∨ ∃ b, i = .rxByte b) (h : ClosesWithin (is.count .tick) s.core) :
    ∃ t : State, execAll is s = .next t ∧ (t.core.fsm = .idle ∨ t.core.fsm = .tx) := by
  induction is generalizing s with
  | nil => exact ⟨s, rfl, h.closed hinv⟩
  | cons i is ih =>
    obtain ⟨first, rest⟩ := List.forall_mem_cons.1 events
    obtain rfl | ⟨b, rfl⟩ := first
    · rw [List.count_cons_self] at h
      rw [execAll_cons is (exec_tick s)]
      exact ih (tickEvent_inv hinv) rest (h.tick hinv)
    · rw [List.count_cons_of_ne (by simp)] at h
      rw [execAll_cons is (exec_rxByte b s)]
      exact ih (rxByteEvent_inv b hinv) rest (h.rxByte b)

/-- Settles O57: max(1, RESP_TIMEOUT) Ticks are enough whatever resp_timer has counted before. -/
theorem responseWindowIsBounded : Obligations.ResponseWindowIsBounded := by
  intro is s hinv _ events limit
  exact execAll_closesWithin is hinv events (.inr (limit.trans (Nat.le_add_left _ _)))

end Sys2Proof.Machine
end

/-! PROOFS. Reset and hazards (70_reset_and_hazards.md): what Reset leaves, and why every command completes where Ticks
keep coming and offered bytes are taken. -/

section
namespace Sys2Proof.Machine

/-! ### Reset (R311, R313) -/

theorem exec_reset (s : State) : exec .reset s = .next { s with core := CoreState.reset } := rfl

/-- Settles O36: the reset state of the model is the list of R54. -/
theorem resetWritesResetValues : Obligations.ResetWritesResetValues := exec_reset

/-- An entry of a buffer of zeros, or the 0 that stands for an entry beyond it. -/
theorem getD_replicate_zero {w : Nat} (n i : Nat) : (Vector.replicate n 0#w).getD i 0#w = 0#w := by
  by_cases h : i < n <;> simp [Vector.getD, h]

theorem hostReadValue_reset {a : Byte} (h : a ≠ 0x12) : hostReadValue a CoreState.reset = 0 := by
  unfold hostReadValue
  split
  case h_18 ha => exact absurd (BitVec.eq_of_toNat_eq ha) h
  case h_19 => simp [CoreState.reset, getD_replicate_zero]
  all_goals rfl

/-- Settles O37: CRC_ACC is the only register whose reset value is not 0, and IDLE drives the outputs low. -/
theorem hostReadsZeroAfterReset : Obligations.HostReadsZeroAfterReset := by
  intro s t a h
  cases (exec_reset s).symm.trans h
  refine ⟨?_, rfl, rfl, rfl, rfl⟩
  split
  next ha => rw [ha]; rfl
  next ha => exact hostReadValue_reset ha

/-! ### The work left to an operation in progress (R324)

A number that no event raises and that falls whenever the event comes for which the state waits. -/

/-- The attempts still to come, then within the attempt the bytes still to send, then the Ticks that the response window
has left. The weights put an attempt above a whole frame and a byte above a whole window. -/
def workLeft (k : CoreState) : Nat :=
  let later := (k.maxRetries.toNat + 1 - k.attempts.toNat) * 0x20000
  match k.fsm with
  | .idle => 0
  | .tx => later + (0x10000 + (8 - k.txIdx.toNat))
  | .wait | .recv => later + (max 1 k.respTimeout.toNat - k.respTimer.toNat + 1)

theorem workLeft_idle {k : CoreState} (h : k.fsm = .idle) : workLeft k = 0 := by
  simp [workLeft, h]

theorem workLeft_tx {k : CoreState} (h : k.fsm = .tx) :
    workLeft k = (k.maxRetries.toNat + 1 - k.attempts.toNat) * 0x20000 + (0x10000 + (8 - k.txIdx.toNat)) := by
  simp [workLeft, h]

theorem workLeft_open {k : CoreState} (h : k.fsm = .wait ∨ k.fsm = .recv) :
    workLeft k = (k.maxRetries.toNat + 1 - k.attempts.toNat) * 0x20000
      + (max 1 k.respTimeout.toNat - k.respTimer.toNat + 1) := by
  rcases h with h | h <;> simp [workLeft, h]

theorem fsm_ne_of_open {k : CoreState} (h : k.fsm = .wait ∨ k.fsm = .recv) : k.fsm ≠ .idle ∧ k.fsm ≠ .tx := by
  rcases h with h | h <;> simp [h]

theorem workLeft_pos {k : CoreState} (h : k.fsm ≠ .idle) : 0 < workLeft k := by
  rcases fsm_closed_or_open k with (hidle | htx) | hopen
  · exact absurd hidle h
  · rw [workLeft_tx htx]; omega
  · rw [workLeft_open hopen]; omega

/-- The work left tells whether the core is sending. -/
theorem fsm_tx_iff_workLeft {k : CoreState} (hinv : k.Inv) : k.fsm = .tx ↔ 0x10000 < workLeft k % 0x20000 := by
  rcases fsm_closed_or_open k with (hidle | htx) | hopen
  · simp [hidle, workLeft_idle hidle]
  · obtain ⟨txIdx, -, -⟩ := hinv.tx_idx htx
    rw [workLeft_tx htx]
    simp only [htx, true_iff]
    omega
  · have := k.respTimeout.isLt
    obtain ⟨-, not_tx⟩ := fsm_ne_of_open hopen
    rw [workLeft_open hopen]
    simp only [not_tx, false_iff]
    omega

/-- An error that closes the window ends the operation, or begins the next attempt with one fewer to come. -/
theorem raise_workLeft_lt (e : ErrKind) {k : CoreState} (hopen : k.fsm = .wait ∨ k.fsm = .recv) :
    workLeft (raise e k) < workLeft k := by
  have pos : 0 < workLeft k := workLeft_pos (fsm_ne_of_open hopen).1
  rcases raise_cases e k with ⟨-, heq⟩ | ⟨-, -, heq⟩ | ⟨-, -, left, heq⟩ | ⟨-, -, -, heq⟩ <;> rw [heq]
  · exact pos
  · exact pos
  · have counted : (k.attempts + 1).toNat = k.attempts.toNat + 1 := by
      have := k.maxRetries.isLt
      bv_omega
    rw [workLeft_tx rfl, workLeft_open hopen]
    simp only [retryAttempt_maxRetries, retryAttempt_attempts, retryAttempt_txIdx, discardFrame_maxRetries,
      discardFrame_attempts, counted]
    omega
  · exact pos

theorem frameEnd_workLeft_lt {k : CoreState} (hopen : k.fsm = .wait ∨ k.fsm = .recv) :
    workLeft (frameEnd k) < workLeft k := by
  have pos : 0 < workLeft k := workLeft_pos (fsm_ne_of_open hopen).1
  rcases frameEnd_cases k with ⟨regs, -, heq⟩ | ⟨code, -, heq⟩ | ⟨e, -, -, heq⟩ <;> rw [heq]
  · exact pos
  · exact pos
  · exact raise_workLeft_lt e hopen

/-! ### Every event leaves the work or lessens it -/

/-- A byte leaves the response timer as it is, or ends the frame. -/
theorem rxByteEvent_workLeft_le (b : Byte) (k : CoreState) : workLeft (rxByteEvent b k) ≤ workLeft k := by
  obtain closed | hwait | hrecv := fsm_closed_or_open k
  · rw [rxByteEvent_dropped b closed]
  · rw [rxByteEvent_wait b k hwait, workLeft_open (.inl hwait)]
    exact Nat.le_refl _
  · have taken : workLeft (takeByte b k) = workLeft k := rfl
    rw [rxByteEvent_recv b k hrecv, ← taken]
    split
    · exact (frameEnd_workLeft_lt (k := takeByte b k) (.inr hrecv)).le
    · exact Nat.le_refl _

/-- A Tick that closes nothing counts resp_timer one nearer to its limit. -/
theorem countWait_workLeft_lt {k : CoreState} (hinv : k.Inv) (hopen : k.fsm = .wait ∨ k.fsm = .recv) :
    workLeft (countWait k) < workLeft k := by
  obtain ⟨below, -⟩ := hinv.timers hopen
  have top := k.respTimeout.isLt
  have counted : (k.respTimer + 1).toNat = k.respTimer.toNat + 1 := toNat_add_one (by omega)
  rw [workLeft_open (k := countWait k) hopen, workLeft_open hopen]
  simp only [countWait_maxRetries, countWait_attempts, countWait_respTimeout, countWait_respTimer, counted]
  omega

theorem tickEvent_workLeft_lt {k : CoreState} (hinv : k.Inv) (hopen : k.fsm = .wait ∨ k.fsm = .recv) :
    workLeft (tickEvent k) < workLeft k := by
  have less := countWait_workLeft_lt hinv hopen
  have recv : workLeft (countRecv k) = workLeft (countWait k) := rfl
  obtain hwait | hrecv := hopen
  · rw [tickEvent_wait k hwait]
    split
    · exact (raise_workLeft_lt _ (k := countWait k) (.inl hwait)).trans less
    · exact less
  · rw [← recv] at less
    rw [tickEvent_recv k hrecv]
    split
    · exact (frameEnd_workLeft_lt (k := countRecv k) (.inr hrecv)).trans less
    · split
      · exact (raise_workLeft_lt _ (k := countRecv k) (.inr hrecv)).trans less
      · exact less

theorem tickEvent_workLeft_le {k : CoreState} (hinv : k.Inv) : workLeft (tickEvent k) ≤ workLeft k := by
  obtain closed | hopen := fsm_closed_or_open k
  · rw [tickEvent_dropped closed]
  · exact (tickEvent_workLeft_lt hinv hopen).le

/-- An accepted byte is one fewer to send; the last one opens a window, which weighs less than a byte. -/
theorem txAcceptEvent_workLeft_lt {k : CoreState} (hinv : k.Inv) (htx : k.fsm = .tx) :
    workLeft (txAcceptEvent k) < workLeft k := by
  obtain ⟨txIdx, -, -⟩ := hinv.tx_idx htx
  rw [txAcceptEvent_tx k htx, workLeft_tx htx]
  split
  · have counted : (k.txIdx + 1).toNat = k.txIdx.toNat + 1 := by bv_omega
    rw [workLeft_tx (k := { k with txIdx := k.txIdx + 1 }) htx]
    simp only [counted]
    omega
  · have top := k.respTimeout.isLt
    rw [workLeft_open (.inl rfl)]
    simp only [openWindow_maxRetries, openWindow_attempts, openWindow_respTimeout]
    omega

theorem txAcceptEvent_workLeft_le {k : CoreState} (hinv : k.Inv) : workLeft (txAcceptEvent k) ≤ workLeft k := by
  by_cases htx : k.fsm = .tx
  · exact (txAcceptEvent_workLeft_lt hinv htx).le
  · rw [txAcceptEvent_of_ne k htx]

theorem ioErrorEvent_workLeft_lt {k : CoreState} (hbusy : k.fsm ≠ .idle) : workLeft (ioErrorEvent k) < workLeft k := by
  rw [ioErrorEvent_busy k hbusy]
  exact workLeft_pos hbusy

theorem ioErrorEvent_workLeft_le (k : CoreState) : workLeft (ioErrorEvent k) ≤ workLeft k := by
  by_cases hidle : k.fsm = .idle
  · rw [ioErrorEvent_idle k hidle]
  · exact (ioErrorEvent_workLeft_lt hidle).le

/-- With the invariant, which the comparisons need, as one relation between the core before and after. -/
theorem workLeft_eventRelation : EventRelation fun k l => k.Inv → l.Inv ∧ workLeft l ≤ workLeft k where
  refl _ hinv := ⟨hinv, Nat.le_refl _⟩
  trans _ _ _ h h' hinv :=
    have ⟨hinv', le⟩ := h hinv
    (h' hinv').imp_right le.trans'
  rxByte b k hinv := ⟨rxByteEvent_inv b hinv, rxByteEvent_workLeft_le b k⟩
  tick _ hinv := ⟨tickEvent_inv hinv, tickEvent_workLeft_le hinv⟩
  txAccept _ hinv := ⟨txAcceptEvent_inv hinv, txAcceptEvent_workLeft_le hinv⟩
  ioError k hinv := ⟨ioErrorEvent_inv hinv, ioErrorEvent_workLeft_le k⟩

/-- While BUSY a command is refused, writes the CRC port, or is Reset, which leaves no work. -/
theorem CommandEffect.workLeft_le {k l : CoreState} {i : Instr} (he : CommandEffect k i l) (hbusy : k.fsm ≠ .idle) :
    workLeft l ≤ workLeft k := by
  cases he with
  | reset => exact Nat.zero_le _
  | crcPort | refused => exact Nat.le_refl _
  | encode idle | decode idle | execute idle | clear idle => exact absurd idle hbusy

/-- While BUSY a host write is refused or ignored. -/
theorem hostWriteRegister_of_busy (a : Byte) (v : Word) {k : CoreState} (hbusy : k.fsm ≠ .idle) :
    hostWriteRegister a v k = refuse k ∨ hostWriteRegister a v k = k := by
  rcases hostWriteRegister_cases a v k with ⟨-, -, idle, -⟩ | ⟨-, -, -, heq⟩ | ⟨-, heq⟩
  · exact absurd idle hbusy
  · exact .inl heq
  · exact .inr heq

theorem runEvent_workLeft_le {e : Event} {s t : State} (hinv : s.Inv) (hbusy : s.core.fsm ≠ .idle)
    (h : runEvent e s = .next t) : workLeft t.core ≤ workLeft s.core := by
  cases e with
  | instr i =>
    cases hev : isEvent i with
    | true => exact (workLeft_eventRelation.exec hev h hinv).2
    | false => exact (exec_commandEffect hev h).workLeft_le hbusy
  | reservedCommand => cases h; exact Nat.le_refl _
  | regWrite a v =>
    cases h
    rcases hostWriteRegister_of_busy a v hbusy with heq | heq <;> exact (congrArg workLeft heq).le
  | hostRead a => cases h; exact Nat.le_refl _
  | burst f => cases h; exact (workLeft_eventRelation.receiveFrame f _ hinv).2

/-! ### The events that the assumptions of R320 and R324 promise -/

/-- The event for which the core waits: a Tick while the window is open; in TX the transport takes the byte offered, alone
or with its whole frame, or raises `io_err`. -/
inductive Awaited (k : CoreState) : Event → Prop
  | tick (hopen : k.fsm = .wait ∨ k.fsm = .recv) : Awaited k (.instr .tick)
  | txAccept (htx : k.fsm = .tx) : Awaited k (.instr .txAccept)
  | ioErr (htx : k.fsm = .tx) : Awaited k (.instr .ioErr)
  | reqRhr (htx : k.fsm = .tx) (unit : Byte) (addr qty crc : Word)
      (offered : offersFrame (reqBytes unit addr qty crc) k = true) : Awaited k (.instr (.reqRhr unit addr qty crc))

theorem acceptBytes_workLeft_lt (n : Nat) {s : State} (hinv : s.Inv) (htx : s.core.fsm = .tx) :
    workLeft (acceptBytes (n + 1) s).core < workLeft s.core := by
  have first : workLeft (acceptByte s).core < workLeft s.core := by
    rw [acceptByte_core]
    exact txAcceptEvent_workLeft_lt hinv htx
  have hinv' : (acceptByte s).Inv := exec_inv hinv (exec_txAccept s)
  exact (workLeft_eventRelation.acceptBytes n _ hinv').2.trans_lt first

theorem Awaited.workLeft_lt {e : Event} {s t : State} (he : Awaited s.core e) (hinv : s.Inv)
    (h : runEvent e s = .next t) : workLeft t.core < workLeft s.core := by
  cases he with
  | tick hopen => cases h; exact tickEvent_workLeft_lt hinv hopen
  | txAccept htx => cases h; exact acceptBytes_workLeft_lt 0 hinv htx
  | ioErr htx => cases h; exact ioErrorEvent_workLeft_lt (by simp [htx])
  | reqRhr htx unit addr qty crc offered =>
    cases (execReqRhr_eq unit addr qty crc s).symm.trans h
    rw [if_pos offered]
    exact acceptBytes_workLeft_lt 7 hinv htx

/-- In a run that stays busy and either stays in TX or stays out of it, an awaited event comes. -/
theorem exists_awaited {es : Nat → Event} {ss : Nat → State} (fair : FairTransport es ss) (ticking : KeepsTicking es)
    {n : Nat} (busy : ∀ m, n ≤ m → (ss m).core.fsm ≠ .idle)
    (same : ∀ m, n ≤ m → ((ss m).core.fsm = .tx ↔ (ss n).core.fsm = .tx)) :
    ∃ m, n ≤ m ∧ Awaited (ss m).core (es m) := by
  by_cases htx : (ss n).core.fsm = .tx
  · obtain ⟨m, hm, way⟩ := fair n htx
    have htx' : (ss m).core.fsm = .tx := (same m hm).2 htx
    refine ⟨m, hm, ?_⟩
    rcases way with left | taken | raised | ⟨unit, addr, qty, crc, taken, offered⟩
    · exact absurd htx' left
    · rw [taken]; exact .txAccept htx'
    · rw [raised]; exact .ioErr htx'
    · rw [taken]; exact .reqRhr htx' unit addr qty crc offered
  · obtain ⟨m, hm, ticks⟩ := ticking n
    have closed : ¬((ss m).core.fsm = .idle ∨ (ss m).core.fsm = .tx) :=
      not_or.2 ⟨busy m hm, mt (same m hm).1 htx⟩
    refine ⟨m, hm, ?_⟩
    rw [ticks]
    exact .tick ((fsm_closed_or_open _).resolve_left closed)

/-! ### Every command completes (R324) -/

theorem IsRun.inv {es : Nat → Event} {ss : Nat → State} (run : IsRun es ss) (hinv : (ss 0).Inv) (n : Nat) :
    (ss n).Inv := by
  induction n with
  | zero => exact hinv
  | succ n ih => exact runEvent_inv ih (run n)

/-- An induction over the work left: a run that stays busy loses some of it, for otherwise it stays in TX or out of it,
and then an awaited event comes. -/
theorem IsRun.exists_idle {es : Nat → Event} {ss : Nat → State} (run : IsRun es ss) (hinv : ∀ n, (ss n).Inv)
    (fair : FairTransport es ss) (ticking : KeepsTicking es) (n : Nat) : ∃ m, n ≤ m ∧ (ss m).core.fsm = .idle := by
  induction hw : workLeft (ss n).core using Nat.strong_induction_on generalizing n with
  | _ w ih =>
    subst hw
    by_contra never
    have busy (m : Nat) (hm : n ≤ m) : (ss m).core.fsm ≠ .idle := fun hidle => never ⟨m, hm, hidle⟩
    have le (m : Nat) (hm : n ≤ m) : workLeft (ss m).core ≤ workLeft (ss n).core := by
      induction m, hm using Nat.le_induction with
      | base => exact Nat.le_refl _
      | succ m hm le => exact (runEvent_workLeft_le (hinv m) (busy m hm) (run m)).trans le
    have const (m : Nat) (hm : n ≤ m) : workLeft (ss m).core = workLeft (ss n).core := by
      refine (le m hm).eq_of_not_lt fun less => ?_
      obtain ⟨j, hj, hidle⟩ := ih _ less m rfl
      exact busy j (hm.trans hj) hidle
    obtain ⟨m, hm, awaited⟩ := exists_awaited fair ticking busy fun m hm => by
      rw [fsm_tx_iff_workLeft (hinv m), fsm_tx_iff_workLeft (hinv n), const m hm]
    have less := awaited.workLeft_lt (hinv m) (run m)
    rw [const m hm, const (m + 1) (hm.trans m.le_succ)] at less
    exact less.false

/-- An operation in progress that an event other than Reset brings to IDLE has completed. -/
theorem runEvent_done {e : Event} {s t : State} (h : runEvent e s = .next t) (he : e ≠ .instr .reset)
    (hbusy : s.core.fsm ≠ .idle) (hidle : t.core.fsm = .idle) : t.core.done = true := by
  cases e with
  | instr i => exact (busyEndsOnlyByCompletion i s t h (fun hi => he (hi ▸ rfl)) hbusy hidle).1
  | reservedCommand => cases h; exact absurd hidle hbusy
  | regWrite a v =>
    cases h
    have fsm : (hostWriteRegister a v s.core).fsm = s.core.fsm := by
      rcases hostWriteRegister_of_busy a v hbusy with heq | heq <;> rw [heq]
      rfl
    exact absurd (fsm ▸ hidle) hbusy
  | hostRead a => cases h; exact absurd hidle hbusy
  | burst f => cases h; exact ((goesOn_eventRelation.receiveFrame f _).ends hbusy hidle).done

/-- Settles O59: the run comes to IDLE, and the event that first brings it there completes the operation. -/
theorem everyCommandCompletes : Obligations.EveryCommandCompletes := by
  classical
  intro es ss run hinv fair ticking n hbusy
  have comes := run.exists_idle (run.inv hinv) fair ticking n
  obtain ⟨hle, hidle⟩ := Nat.find_spec comes
  have before {m : Nat} (hm : m < Nat.find comes) (hn : n ≤ m) : (ss m).core.fsm ≠ .idle :=
    fun hidle => Nat.find_min comes hm ⟨hn, hidle⟩
  generalize Nat.find comes = first at hle hidle before
  have later : n < first := lt_of_le_of_ne hle fun heq => hbusy (heq ▸ hidle)
  refine ⟨first, later, hidle, fun noReset => ?_⟩
  obtain ⟨m, rfl⟩ : ∃ m, first = m + 1 := Nat.exists_eq_add_one.2 (by omega)
  have hm : n ≤ m := Nat.le_of_lt_succ later
  exact runEvent_done (run m) (noReset m hm m.lt_succ_self) (before m.lt_succ_self hm) hidle

end Sys2Proof.Machine
end
